-- ==== Sys2Proof/Word.lean ====
section
/-! DEFINITION. The word types of the engine (00_scope R11): bytes, 16-bit words, character strings. -/

namespace Sys2Proof

/-- `u8` of R11: one byte, one serial character of a frame (R73). -/
abbrev Byte := BitVec 8

/-- `u16` of R11: a register word, a frame field, a checksum. -/
abbrev Word := BitVec 16

/-- A character string (R26, R27): its characters, first one first. -/
abbrev Text := List Char

end Sys2Proof
end

