-- ==== Sys2Proof/Machine/Values.lean ====
section
/-! DEFINITION. The data the engine's registers and results hold: decimals, headers, register definitions, records. -/

namespace Sys2Proof

/-- An exact decimal `(m, k)`, the number `m / 10^k` (R211). Durations are decimals of seconds (log 8). -/
structure Decimal where
  m : Nat
  k : Nat
  deriving DecidableEq, Repr, Inhabited

/-- `HDR` (R23): the three header bytes of a response. The third is `byte_count` or `exception_code` (R98). -/
structure Header where
  deviceId     : Byte
  functionCode : Byte
  third        : Byte
  deriving DecidableEq, Repr, Inhabited

/-- The five groups of the register map (R191). -/
inductive Group where
  | deviceInfo
  | realTime
  | dailyStats
  | historicalStats
  | control
  deriving DecidableEq, Repr, Inhabited

/-- The five decoding kinds of a register definition (R197). -/
inductive Kind where
  | scaledUnsigned
  | scaledSignedSplitByte
  | booleanFlag
  | asciiBlock
  | version
  deriving DecidableEq, Repr, Inhabited

/-- The semantic names of the register map: the fifteen of R193, and names for OPEN entries (R196, log 14). -/
inductive EntryName where
  | model
  | version
  | serialNumber
  | stateOfCharge
  | batteryVoltage
  | chargingCurrent
  | temperature
  | loadVoltage
  | loadCurrent
  | loadPower
  | solarVoltage
  | solarCurrent
  | solarPower
  | loadStatus
  | loadControl
  | extra (n : Nat)
  deriving DecidableEq, Repr, Inhabited

/-- A register definition, one cell of `REGMAP` (R190). `scale` is the decimal exponent `k` where the entry has one. -/
structure RegDef where
  name    : EntryName
  group   : Group
  address : Word
  length  : Nat
  scale   : Option Nat
  signed  : Bool
  kind    : Kind
  unit    : Text
  deriving DecidableEq, Repr, Inhabited

/-- The reading record (R27): the twelve fields the engine fills. -/
structure Reading where
  stateOfCharge         : Decimal
  batteryVoltage        : Decimal
  chargingCurrent       : Decimal
  controllerTemperature : Int
  batteryTemperature    : Int
  loadVoltage           : Decimal
  loadCurrent           : Decimal
  loadPower             : Decimal
  solarVoltage          : Decimal
  solarCurrent          : Decimal
  solarPower            : Decimal
  isOn                  : Bool
  deriving DecidableEq, Repr, Inhabited

/-- The device-info record (R27). -/
structure DeviceInfo where
  model           : Text
  serialNumber    : Text
  hardwareVersion : Text
  softwareVersion : Text
  deriving DecidableEq, Repr, Inhabited

/-- `RES` (R26): the shape depends on the operation. -/
inductive Result where
  | nothing
  | word (v : Word)
  | flag (b : Bool)
  | frame (bytes : Vector Byte 8)
  | header (h : Header)
  | words (ws : List Word)
  | entry (e : RegDef)
  | span (start : Word) (count : Nat)
  | decimal (d : Decimal)
  | temperatures (controller battery : Int)
  | text (t : Text)
  | reading (r : Reading)
  | info (d : DeviceInfo)
  deriving DecidableEq, Repr, Inhabited

/-- `PHASE` (R28). -/
inductive Phase where
  | idle
  | sent
  | headerReceived
  | exceptionDetected
  | payloadReceived
  | validated
  | complete
  | failed
  deriving DecidableEq, Repr, Inhabited

/-- `STATUS` (R30): `OK` or the error kind the last operation ended with. -/
inductive Status where
  | ok
  | connectionFailure
  | notConnected
  | communicationTimeout
  | crcMismatch
  | protocolException
  deriving DecidableEq, Repr, Inhabited

/-- The five error kinds, with what each carries (R250). -/
inductive ErrorKind where
  | connectionFailure
  | notConnected
  | communicationTimeout
  | crcMismatch
  | protocolException (code functionCode : Byte)
  deriving DecidableEq, Repr, Inhabited

/-- The request that is outstanding in an exchange (R99): which of the two, with its fields. -/
inductive Request where
  | read (start count : Word)
  | write (address value : Word)
  deriving DecidableEq, Repr, Inhabited

/-- The transport as CONNECT opened it (R181): baud rate and read deadline; the rest is fixed 8N1 (R73). -/
structure Link where
  baud     : Nat
  deadline : Decimal
  deriving DecidableEq, Repr, Inhabited

end Sys2Proof
end

