-- ==== Sys2Proof/Machine/Bytes.lean ====
section
/-! DEFINITION. Bit fields, byte orders and sign extension (R11, R61 to R64, R96 to R98). -/

namespace Sys2Proof.Machine

/-- `hi8(w) = w[15:8]` (R11). -/
def hi8 (w : Word) : Byte := w.extractLsb' 8 8

/-- `lo8(w) = w[7:0]` (R11). -/
def lo8 (w : Word) : Byte := w.extractLsb' 0 8

/-- `be16(w)` (R11, R61): high byte first. -/
def be16 (w : Word) : List Byte := [hi8 w, lo8 w]

/-- `le16(w)` (R11, R62): low byte first, the order of a checksum on the wire. -/
def le16 (w : Word) : List Byte := [lo8 w, hi8 w]

/-- `from_be16(b0, b1) = b0*256 + b1` (R11). -/
def fromBe16 (b0 b1 : Byte) : Word := b0 ++ b1

/-- `from_le16(b0, b1) = b0 + b1*256` (R11). -/
def fromLe16 (b0 b1 : Byte) : Word := b1 ++ b0

/-- `sext_8(b)` (R11): `b - 256` if `b > 127`, else `b`. -/
def sext8 (b : Byte) : Int := if b.toNat > 127 then (b.toNat : Int) - 256 else (b.toNat : Int)

/-- The bytes of a word sequence, each word high byte first (R63, R215). -/
def wordsToBytes (ws : List Word) : List Byte := ws.flatMap be16

/-- Register-word decoding of a payload (R158); none for an odd number of bytes (R159). -/
def bytesToWords : List Byte → Option (List Word)
  | [] => some []
  | [_] => none
  | b0 :: b1 :: rest => (bytesToWords rest).map (fromBe16 b0 b1 :: ·)

/-- The first `L` bytes of a frame given as one number (R90): the first byte is the most significant. -/
def bytesOfNumber : Nat → Nat → List Byte
  | 0, _ => []
  | l + 1, v => BitVec.ofNat 8 (v / 256 ^ l) :: bytesOfNumber l v

end Sys2Proof.Machine
end

