-- ==== Sys2Proof/Machine/Operands.lean ====
section
/-! DEFINITION. Operand domains and fixed operand values: device ids, function codes, scales, the engine's register addresses, frame bytes. -/

namespace Sys2Proof.Machine

/-- A device id of the domain 1 to 247 (R91, R143). -/
def deviceIdOk (d : Byte) : Bool := 1 ≤ d.toNat && d.toNat ≤ 247

/-- `FC_READ` (R10, R101). -/
def fcRead : Byte := 0x03

/-- `FC_WRITE` (R10, R101). -/
def fcWrite : Byte := 0x06

/-- A function code of the request enumeration (R101, R143). -/
def functionCodeOk (f : Byte) : Bool := f == fcRead || f == fcWrite

/-- A scale exponent of {0, 1, 2} (R211, R212). -/
def scaleOk (k : Byte) : Bool := k.toNat ≤ 2

/-- Capacity of the word file `W` (R25). -/
def wordFileCapacity : Nat := 127

/-- `A_MODEL`, `N_MODEL` (R10, R75). -/
def aModel : Word := 0x000C
def nModel : Word := 8

/-- `A_VER`, `N_VER` (R10, R75). -/
def aVer : Word := 0x0014
def nVer : Word := 4

/-- `A_SERIAL`, `N_SERIAL` (R10, R75). -/
def aSerial : Word := 0x0018
def nSerial : Word := 8

/-- `A_LOAD`, the load-switch control register (R10, R75). -/
def aLoad : Word := 0x010A

/-- The function code a request carries (R91, R92). -/
def requestFunctionCode : Request → Byte
  | .read _ _ => fcRead
  | .write _ _ => fcWrite

/-- The address field of a request, bytes 2 and 3 (R91, R92). -/
def requestAddress : Request → Word
  | .read a _ => a
  | .write a _ => a

/-- The `count_or_value` field of a request, bytes 4 and 5 (R91, R92). -/
def requestOperand : Request → Word
  | .read _ n => n
  | .write _ v => v

/-- The 8 bytes of a request for a device (R175, R176). -/
def requestFrame (d : Byte) (r : Request) : Vector Byte 8 :=
  frame8 d (requestFunctionCode r) (requestAddress r) (requestOperand r)

/-- The checksum a request closes with (R140). -/
def requestCrc (d : Byte) (r : Request) : Word :=
  crc16 (frame6 d (requestFunctionCode r) (requestAddress r) (requestOperand r))

/-- The bytes of REQ.READ and REQ.WRITE with a given checksum field (R91, R92, R97). -/
def reqBytes (d f : Byte) (x y crc : Word) : List Byte := frame6 d f x y ++ le16 crc

/-- The bytes of RSP.READ (R93). -/
def rspReadBytes (d f : Byte) (data : List Byte) (crc : Word) : List Byte :=
  d :: f :: BitVec.ofNat 8 data.length :: (data ++ le16 crc)

/-- The bytes of RSP.WRITE (R94). -/
def rspWriteBytes (d f : Byte) (a v crc : Word) : List Byte :=
  [d, f, hi8 a, lo8 a, hi8 v, lo8 v, lo8 crc, hi8 crc]

/-- The bytes of RSP.EXC (R95). -/
def rspExcBytes (d f code : Byte) (crc : Word) : List Byte :=
  [d, f, code, lo8 crc, hi8 crc]

/-- The three bytes of a header, as received (R23). -/
def headerBytes (h : Header) : List Byte := [h.deviceId, h.functionCode, h.third]

/-- A header read that returned three bytes (R151); none if fewer (or, which `RxRead(3)` never gives, more). -/
def headerOf : List Byte → Option Header
  | [a, b, c] => some ⟨a, b, c⟩
  | _ => none

/-- The number of bytes that follow the header of a normal response (R99 (b), (c), R155, R160). -/
def remainderLength (r : Request) (h : Header) : Nat :=
  match r with
  | .read _ _ => h.third.toNat + 2
  | .write _ _ => 5

end Sys2Proof.Machine
end

