-- ==== Sys2Proof/Config.lean ====
section
/-! DEFINITION. The OPEN parameters of the spec (R10) and the free values: constants without a body. -/

namespace Sys2Proof

/-- `T_SETTLE` (R39): OPEN, no rule depends on it (log 8). -/
opaque Config.settle : Decimal

/-- `HW_VER_WORD` (R217): which of the four version words feeds the hardware version. OPEN (log 15). -/
opaque Config.hwVerWord : Fin 4

/-- `SW_VER_WORD` (R217): which of the four version words feeds the software version. OPEN (log 15). -/
opaque Config.swVerWord : Fin 4

/-- The OPEN entries of `REGMAP` (R196); the map uses them where they meet R190 to R192 (log 14). -/
opaque Config.extraEntries : List RegDef

/-- The unit label of a register definition (R190): OPEN, left to the host (R193, X24; log 14). -/
opaque Config.unitLabel : EntryName → Text

/-- Free value: `RES` after an error (R26, X9; log 9). -/
opaque Config.freeResult : Nat → Result

/-- Free value: `EXC_CODE` and `EXC_FC` where R232 leaves them unspecified (log 10). -/
opaque Config.freeByte : Nat → Byte

/-- Free value: what WORDS leaves in the word file for more words than it holds (R25, R158; log 16). -/
opaque Config.freeWords : Nat → List Word

/-- Free value: the bytes that arrive before an `RxRead`'s deadline, where no script names them (R71, X15; log 5). -/
opaque Config.freeBurst : Nat → List Byte

/-- Free value: whether the environment opens the transport, where no script says so (R181, X15; log 5). -/
opaque Config.freeOpen : Nat → Bool

end Sys2Proof
end

