-- ==== Sys2Proof/Syntax.lean ====
section
/-! DEFINITION. The instructions: the 22 operations of R104 and the five wire shapes R91 to R95 (R9), one constructor per row of the opcode table. -/

namespace Sys2Proof

inductive Instr where
  /-- CRC16, `crc16(bytes)` (R132). -/
  | crc16 (m : List Byte)
  /-- VERIFY, `verify(buffer)` (R134). -/
  | verify (buf : List Byte)
  /-- BLDRD, `build_read_request(device_id, function_code, start_address, count)` (R141). -/
  | bldrd (deviceId functionCode : Byte) (start count : Word)
  /-- BLDWR, `build_write_request(device_id, address, value)` (R142). -/
  | bldwr (deviceId : Byte) (address value : Word)
  /-- PARSEHDR, `parse_response_header(bytes)` (R151). -/
  | parsehdr (h : List Byte)
  /-- WORDS, `words(payload)` (R158). -/
  | words (p : List Byte)
  /-- CONNECT, `connect()` (R181). -/
  | connect
  /-- DISCONNECT, `disconnect()` (R182). -/
  | disconnect
  /-- RDREGS, `read_registers(start, count)` (R175). -/
  | rdregs (start count : Word)
  /-- WRREG, `write_register(address, value)` (R176). -/
  | wrreg (address value : Word)
  /-- RMLOOKUP, `regmap_lookup(name)`, the name as its index (R194, R199). -/
  | rmlookup (index : Word)
  /-- RMSPAN, `regmap_span(group)` (R195). -/
  | rmspan (group : Group)
  /-- CVTSCALE, `cvt_scale(raw, k)` (R212). -/
  | cvtscale (raw : Word) (k : Byte)
  /-- CVTTEMP, `cvt_temp(raw)` (R213). -/
  | cvttemp (raw : Word)
  /-- CVTFLAG, `cvt_flag(raw)` (R214). -/
  | cvtflag (raw : Word)
  /-- CVTASCII, `cvt_ascii(words)` (R215). -/
  | cvtascii (ws : List Word)
  /-- CVTVER, `cvt_ver(raw)` (R216). -/
  | cvtver (raw : Word)
  /-- ASMRT, `assemble_realtime(words)` (R218). -/
  | asmrt (ws : List Word)
  /-- RDRT, `read_realtime_data()` (R231). -/
  | rdrt
  /-- RDINFO, `read_device_info()` (R232). -/
  | rdinfo
  /-- SETLOAD, `set_load(bool)` (R233). -/
  | setload (on : Bool)
  /-- GETLOAD, `get_load_state()` (R234). -/
  | getload
  /-- REQ.READ (R91), fields `d`, `a`, `n` and the checksum. -/
  | reqRead (deviceId : Byte) (start count crc : Word)
  /-- REQ.WRITE (R92), fields `d`, `a`, `v` and the checksum. -/
  | reqWrite (deviceId : Byte) (address value crc : Word)
  /-- RSP.READ (R93): `functionCode` has bit 7 clear; `byte_count` is the number of data bytes. -/
  | rspRead (deviceId functionCode : Byte) (data : List Byte) (crc : Word)
  /-- RSP.WRITE (R94); the function code is a field because the decoder does not test it (R99 (c), R100). -/
  | rspWrite (deviceId functionCode : Byte) (address value crc : Word)
  /-- RSP.EXC (R95): `functionCode` has bit 7 set. -/
  | rspExc (deviceId functionCode code : Byte) (crc : Word)
  deriving DecidableEq, Repr

/-- Where an instruction is presented (log 1, log 4): the host's command port, the request side of an exchange,
or the receive side, with the request the response answers (R99). -/
inductive Port where
  | command
  | request
  | readResponse
  | writeResponse
  deriving DecidableEq, Repr

end Sys2Proof
end

