-- ==== Sys2Proof/Machine/State.lean ====
section
/-! DEFINITION. The machine's state (R20 to R47), plain data; the reasons a step can stop; the state after reset. -/

namespace Sys2Proof.Machine

/-- A host write of a configuration register (R36 to R39, R184). -/
inductive ConfigWrite where
  | deviceId (v : Byte)
  | baud (v : Nat)
  | timeout (v : Decimal)
  | settle (v : Decimal)
  deriving DecidableEq, Repr

/-- What the host or the line presents next (log 1): bytes at a port, or a configuration write (log 19). -/
inductive Input where
  | bytes (port : Port) (bs : List Byte)
  | configure (c : ConfigWrite)
  deriving DecidableEq, Repr

/-- The environment's side (R7 (c), R44, R45): the open transport, its two byte streams, and its scripted answers.
`bursts` holds, per `RxRead`, the bytes that arrive before its deadline; `opens`, per CONNECT, whether the open succeeds (log 5). -/
structure Env where
  link   : Option Link
  rxq    : List Byte
  tx     : List Byte
  bursts : List (List Byte)
  opens  : List Bool
  deriving DecidableEq, Repr

/-- The state (R20), register by register; `request` is the outstanding request (R99, log 24);
`env` is the environment's side; `inputs` and `free` are the model's own (log 1, log 9). -/
structure State where
  acc         : Word
  txbuf       : Vector Byte 8
  hdr         : Header
  rxbuf       : List Byte
  rxlen       : Nat
  w           : List Word
  wcnt        : Nat
  res         : Result
  phase       : Phase
  request     : Request
  status      : Status
  verifyOk    : Bool
  excCode     : Byte
  excFc       : Byte
  connected   : Bool
  cfgDeviceId : Byte
  cfgBaud     : Nat
  cfgTimeout  : Decimal
  cfgSettle   : Decimal
  env         : Env
  inputs      : List Input
  free        : Nat
  deriving DecidableEq, Repr

/-- The machine never stops with a fault: the five error kinds are results in `STATUS`, after which the host
goes on (R250, R260, R263; log 21). Safe: nothing is claimed to stop. -/
inductive Fault where
  deriving DecidableEq, Repr

/-- Why the spec gives a step no result (R12 `refuse`). Every refusal is safe: nothing can be proved through it. -/
inductive Refusal where
  /-- Raised by `exec` for an instruction that has no meaning yet. Safe. -/
  | notModelled (mnemonic : String)
  /-- Raised by `step` for bytes at the command or request port that are no instruction: a reserved select code (R105, X2),
  or bytes outside the layouts (log 2, log 17). Safe. -/
  | notAnInstruction
  /-- Raised by the transactional operations, DISCONNECT and the request frames while an exchange is in progress (R8, R178, R290, X6; log 12). Safe. -/
  | operationInProgress
  /-- Raised by BLDRD, BLDWR, the request frames and the transactional operations for a device id outside 1 to 247 (R143, X3). Safe. -/
  | deviceIdDomain
  /-- Raised by BLDRD for a function code other than 0x03 and 0x06 (R143, X4). Safe. -/
  | functionCodeDomain
  /-- Raised by PARSEHDR for more than three bytes (R151, X8). Safe. -/
  | headerTooLong
  /-- Raised by WORDS for a payload of odd length (R159, X1). Safe. -/
  | oddPayload
  /-- Raised by a read exchange whose validated response has `byte_count` other than twice the count (R159, X1). Safe. -/
  | payloadLength
  /-- Raised by CONNECT while `CONNECTED = 1` (R181, X5). Safe. -/
  | alreadyConnected
  /-- Raised by RMLOOKUP for an index that is not in the map (R194, X7). Safe. -/
  | unknownEntry
  /-- Raised by RMSPAN for a group with no entries (R195, X7). Safe. -/
  | emptyGroup
  /-- Raised by CVTSCALE for an exponent outside {0, 1, 2} (R212, X8). Safe. -/
  | scaleDomain
  /-- Raised by ASMRT for other than 11 words (R218, X8). Safe. -/
  | blockLength
  /-- Raised by the request frames for a checksum that is not the frame's (R91, R92; log 17). Safe. -/
  | requestChecksum
  deriving DecidableEq, Repr

/-- A fresh engine (R47, R280): `PHASE` Idle, `STATUS` OK, `VERIFY_OK` 0, `CONNECTED` 0, `RXLEN` 0, `WCNT` 0, 9600 baud,
1.0 s, `T_SETTLE`. R47 leaves the other registers unspecified: the values here are DESIGN CHOICE (log 6, log 7, log 24). -/
def State.reset : State where
  acc := 0
  txbuf := Vector.replicate 8 0
  hdr := ⟨0, 0, 0⟩
  rxbuf := []
  rxlen := 0
  w := []
  wcnt := 0
  res := .nothing
  phase := .idle
  request := .read 0 0
  status := .ok
  verifyOk := false
  excCode := 0
  excFc := 0
  connected := false
  cfgDeviceId := 0
  cfgBaud := 9600
  cfgTimeout := ⟨10, 1⟩
  cfgSettle := Config.settle
  env := ⟨none, [], [], [], []⟩
  inputs := []
  free := 0

/-- The outcome of one step or one meaning. -/
abbrev Out := Host.Outcome State Fault Refusal

end Sys2Proof.Machine
end

