-- ==== Sys2Proof/Machine/Flags.lean ====
section
/-! DEFINITION. The status registers: the codes of STATUS and PHASE, exception detection, exception messages, and the writes of ACC, VERIFY_OK, RES and STATUS. -/

namespace Sys2Proof.Machine

/-- The code of `STATUS` (R30). -/
def statusCode : Status → BitVec 3
  | .ok => 0
  | .connectionFailure => 1
  | .notConnected => 2
  | .communicationTimeout => 3
  | .crcMismatch => 4
  | .protocolException => 5

/-- The code of `PHASE` (R28). -/
def phaseCode : Phase → BitVec 3
  | .idle => 0
  | .sent => 1
  | .headerReceived => 2
  | .exceptionDetected => 3
  | .payloadReceived => 4
  | .validated => 5
  | .complete => 6
  | .failed => 7

/-- The `STATUS` value of an error kind (R250). -/
def errorStatus : ErrorKind → Status
  | .connectionFailure => .connectionFailure
  | .notConnected => .notConnected
  | .communicationTimeout => .communicationTimeout
  | .crcMismatch => .crcMismatch
  | .protocolException _ _ => .protocolException

/-- `is_exception` (R153): bit 7 of the function code. -/
def isException (h : Header) : Bool := h.functionCode.getLsbD 7

/-- An upper-case hexadecimal digit (R257). -/
def hexDigit (n : Nat) : Char := "0123456789ABCDEF".toList.getD n '0'

/-- The text of an exception code (R251), and of a code that is not in the table (R257). -/
def exceptionMessage (code : Byte) : Text :=
  match code.toNat with
  | 0x01 => "Illegal Function".toList
  | 0x02 => "Illegal Data Address".toList
  | 0x03 => "Illegal Data Value".toList
  | 0x04 => "Slave Device Failure".toList
  | 0x05 => "Acknowledge".toList
  | 0x06 => "Slave Device Busy".toList
  | 0x08 => "Memory Parity Error".toList
  | 0x0A => "Gateway Path Unavailable".toList
  | 0x0B => "Gateway Target Failed to Respond".toList
  | n => "Unknown Exception (0x".toList ++ [hexDigit (n / 16), hexDigit (n % 16), ')']

/-- The end of an operation without an error: `RES <- r ; STATUS <- OK`. -/
def State.finish (r : Result) (s : State) : State := { s with res := r, status := .ok }

/-- A checksum computation leaves its result in `ACC` (R21, R132; log 11). -/
def State.withChecksum (m : List Byte) (s : State) : State := { s with acc := crc16 m }

/-- `VERIFY_OK <- verify(buf)` (R134); below three bytes nothing is computed. -/
def State.runVerify (buf : List Byte) (s : State) : State :=
  if buf.length < 3 then { s with verifyOk := false }
  else { s.withChecksum (verifyMessage buf) with verifyOk := verify buf }

end Sys2Proof.Machine
end

