-- ==== Sys2Proof/Machine/Ops.lean ====
section
/-! DEFINITION. The shared operations: raising an error kind and handing the result back, the transport primitives, sending a request, host writes. -/

namespace Sys2Proof.Machine

/-- `EXC_CODE`, `EXC_FC` are latched first, for `ProtocolException` only (R32, R33, R261). -/
def State.latchException (e : ErrorKind) (s : State) : State :=
  match e with
  | .protocolException code fc => { s with excCode := code, excFc := fc }
  | .connectionFailure => s
  | .notConnected => s
  | .communicationTimeout => s
  | .crcMismatch => s

/-- `raise <Kind>(info)` (R12, R261, R262) outside an exchange: the status of the kind, the latched information,
and `RES` any value (R26, X9; log 9). Nothing else changes. -/
def State.raise (e : ErrorKind) (s : State) : State :=
  { s.latchException e with status := errorStatus e, res := Config.freeResult s.free, free := s.free + 1 }

/-- `raise` inside an exchange: `PHASE <- Failed` as well (R171, R261). -/
def State.failExchange (e : ErrorKind) (s : State) : State := { s.raise e with phase := .failed }

/-- The return from `Failed` (and from `Complete`): the result is handed over and `PHASE` is `Idle` (R171, R172, R267). -/
def State.handOver (s : State) : State := { s with phase := .idle }

/-- The bytes that arrive before the next `RxRead`'s deadline: the environment's choice (R71, X15; log 5). -/
def State.nextBurst (s : State) : List Byte :=
  match s.env.bursts with
  | b :: _ => b
  | [] => Config.freeBurst s.free

/-- The environment's choice is used up. -/
def State.dropBurst (s : State) : State :=
  match s.env.bursts with
  | _ :: rest => { s with env := { s.env with bursts := rest } }
  | [] => { s with free := s.free + 1 }

/-- What the input stream holds when an `RxRead` ends its wait: what was buffered, then what arrived (R71). -/
def State.available (s : State) : List Byte := s.env.rxq ++ s.nextBurst

/-- `RxRead(n)`, the bytes returned (R71): at most `n`, from the head of the stream. -/
def State.rxReadBytes (n : Nat) (s : State) : List Byte := s.available.take n

/-- `RxRead(n)`, the state after it (R71): the bytes returned are removed from the stream, whether or not there were `n`. -/
def State.rxReadState (n : Nat) (s : State) : State :=
  { s.dropBurst with env := { s.dropBurst.env with rxq := s.available.drop n } }

/-- `RxDiscard()` (R72). -/
def State.rxDiscard (s : State) : State := { s with env := { s.env with rxq := [] } }

/-- `TxWrite(bs)` (R70). -/
def State.txWrite (bs : List Byte) (s : State) : State := { s with env := { s.env with tx := s.env.tx ++ bs } }

/-- `TXBUF[0..8] <- frame8(...)` (R140, R141, R142), with the checksum computation's `ACC` (log 11). -/
def State.buildFrame (d f : Byte) (x y : Word) (s : State) : State :=
  { s.withChecksum (frame6 d f x y) with txbuf := frame8 d f x y }

/-- The transition from Idle to Sent (R171): flush, build, write, in this order (R173, R174, R291).
The settling delay that follows changes no state (R174; log 8). -/
def State.sendRequest (d : Byte) (r : Request) (s : State) : State :=
  let s1 := s.rxDiscard.buildFrame d (requestFunctionCode r) (requestAddress r) (requestOperand r)
  { s1.txWrite s1.txbuf.toList with phase := .sent, request := r }

/-- The environment's answer to an open (R181, X15; log 5). -/
def State.opensNow (s : State) : Bool :=
  match s.env.opens with
  | b :: _ => b
  | [] => Config.freeOpen s.free

/-- The environment's choice is used up. -/
def State.dropOpen (s : State) : State :=
  match s.env.opens with
  | _ :: rest => { s with env := { s.env with opens := rest } }
  | [] => { s with free := s.free + 1 }

/-- The environment opens the transport at `CFG_BAUD`, 8N1, read deadline `CFG_TIMEOUT` (R181). -/
def State.openLink (s : State) : State :=
  { s with connected := true, env := { s.env with link := some ⟨s.cfgBaud, s.cfgTimeout⟩ } }

/-- The environment closes the transport; bytes still buffered are lost with it (R182). -/
def State.closeLink (s : State) : State :=
  { s with connected := false, env := { s.env with link := none, rxq := [] } }

/-- Bytes arrive on the input stream of the open transport (R44, R258). -/
def State.receiveBytes (bs : List Byte) (s : State) : State :=
  { s with env := { s.env with rxq := s.env.rxq ++ bs } }

/-- The host writes a configuration register directly (R36 to R39, R184; log 19). -/
def State.configure (c : ConfigWrite) (s : State) : State :=
  match c with
  | .deviceId v => { s with cfgDeviceId := v }
  | .baud v => { s with cfgBaud := v }
  | .timeout v => { s with cfgTimeout := v }
  | .settle v => { s with cfgSettle := v }

end Sys2Proof.Machine
end

