-- ==== Sys2Proof/Machine/Converter.lean ====
section
/-! DEFINITION. Unit U5: operations CVTSCALE, CVTTEMP, CVTFLAG, CVTASCII, CVTVER, ASMRT (45_converter). -/

namespace Sys2Proof.Machine

/-- `cvt_scale(raw, k)` (R211, R212): the number `raw / 10^k`, exactly. -/
def cvtScale (raw : Word) (k : Nat) : Decimal := ⟨raw.toNat, k⟩

/-- The rational number a decimal stands for (R211). -/
def decimalValue (d : Decimal) : ℚ := (d.m : ℚ) / 10 ^ d.k

/-- Equality of scaled results (R212): equal as rationals, whatever their exponents; `(800, 1)` equals `(80, 0)`. -/
def sameDecimal (a b : Decimal) : Bool := a.m * 10 ^ b.k == b.m * 10 ^ a.k

/-- The controller temperature of a packed word (R213). -/
def controllerTemp (raw : Word) : Int := sext8 (hi8 raw)

/-- The battery temperature of a packed word (R213). -/
def batteryTemp (raw : Word) : Int := sext8 (lo8 raw)

/-- `cvt_flag(raw)` (R214): all 16 bits compared with 1. -/
def cvtFlag (raw : Word) : Bool := raw == 1

/-- A byte that ASCII decoding keeps (R215). -/
def asciiByte (b : Byte) : Bool := b.toNat < 0x80

/-- A byte of the trim set (R215): NUL and the six ASCII white-space characters. -/
def trimByte (b : Byte) : Bool := [0x00, 0x09, 0x0A, 0x0B, 0x0C, 0x0D, 0x20].contains b.toNat

/-- The longest suffix of trim bytes removed (R215). -/
def trimTrailing (c : List Byte) : List Byte := (c.reverse.dropWhile trimByte).reverse

/-- A byte read as an ASCII character (R215). -/
def asciiChar (b : Byte) : Char := Char.ofNat b.toNat

/-- `cvt_ascii(words)` (R215). -/
def cvtAscii (ws : List Word) : Text := (trimTrailing ((wordsToBytes ws).filter asciiByte)).map asciiChar

/-- One decimal digit. -/
def decDigit (n : Nat) : Char := Char.ofNat (0x30 + n)

/-- `dec(x)` of a byte (R216): decimal, no leading zeros, at least one digit. -/
def dec (x : Byte) : Text :=
  let n := x.toNat
  if n < 10 then [decDigit n]
  else if n < 100 then [decDigit (n / 10), decDigit (n % 10)]
  else [decDigit (n / 100), decDigit (n / 10 % 10), decDigit (n % 10)]

/-- `cvt_ver(raw)` (R216). -/
def cvtVer (raw : Word) : Text := 'V' :: (dec (hi8 raw) ++ '.' :: dec (lo8 raw))

/-- `assemble_realtime(words)` (R218); none unless there are 11 words. -/
def assembleRealtime : List Word → Option Reading
  | [w0, w1, w2, w3, w4, w5, w6, w7, w8, w9, w10] =>
    some {
      stateOfCharge := cvtScale w0 0
      batteryVoltage := cvtScale w1 1
      chargingCurrent := cvtScale w2 2
      controllerTemperature := controllerTemp w3
      batteryTemperature := batteryTemp w3
      loadVoltage := cvtScale w4 1
      loadCurrent := cvtScale w5 2
      loadPower := cvtScale w6 0
      solarVoltage := cvtScale w7 1
      solarCurrent := cvtScale w8 2
      solarPower := cvtScale w9 0
      isOn := cvtFlag w10 }
  | _ => none

/-- CVTSCALE (R212). -/
def execCvtscale (raw : Word) (k : Byte) (s : State) : Out :=
  if scaleOk k = false then .refused .scaleDomain
  else .next (s.finish (.decimal (cvtScale raw k.toNat)))

/-- CVTTEMP (R213). -/
def execCvttemp (raw : Word) (s : State) : Out :=
  .next (s.finish (.temperatures (controllerTemp raw) (batteryTemp raw)))

/-- CVTFLAG (R214). -/
def execCvtflag (raw : Word) (s : State) : Out := .next (s.finish (.flag (cvtFlag raw)))

/-- CVTASCII (R215). -/
def execCvtascii (ws : List Word) (s : State) : Out := .next (s.finish (.text (cvtAscii ws)))

/-- CVTVER (R216). -/
def execCvtver (raw : Word) (s : State) : Out := .next (s.finish (.text (cvtVer raw)))

/-- ASMRT (R218). -/
def execAsmrt (ws : List Word) (s : State) : Out :=
  match assembleRealtime ws with
  | some r => .next (s.finish (.reading r))
  | none => .refused .blockLength

end Sys2Proof.Machine
end

