-- ==== Sys2Proof/Machine/RegisterMap.lean ====
section
/-! DEFINITION. Unit U2: the contents of `REGMAP` (R190 to R197) and operations RMLOOKUP, RMSPAN (44_register_map). -/

namespace Sys2Proof.Machine

/-- A register definition with its OPEN unit label (R190; log 14). -/
def regDef (name : EntryName) (group : Group) (address : Word) (length : Nat) (scale : Option Nat) (signed : Bool)
    (kind : Kind) : RegDef :=
  ⟨name, group, address, length, scale, signed, kind, Config.unitLabel name⟩

/-- Entries 0 to 2 of R193. -/
def deviceInfoEntries : List RegDef :=
  [regDef .model .deviceInfo 0x000C 8 none false .asciiBlock,
   regDef .version .deviceInfo 0x0014 4 none false .version,
   regDef .serialNumber .deviceInfo 0x0018 8 none false .asciiBlock]

/-- Entries 3 to 13 of R193. -/
def realTimeEntries : List RegDef :=
  [regDef .stateOfCharge .realTime 0x0100 1 (some 0) false .scaledUnsigned,
   regDef .batteryVoltage .realTime 0x0101 1 (some 1) false .scaledUnsigned,
   regDef .chargingCurrent .realTime 0x0102 1 (some 2) false .scaledUnsigned,
   regDef .temperature .realTime 0x0103 1 (some 0) true .scaledSignedSplitByte,
   regDef .loadVoltage .realTime 0x0104 1 (some 1) false .scaledUnsigned,
   regDef .loadCurrent .realTime 0x0105 1 (some 2) false .scaledUnsigned,
   regDef .loadPower .realTime 0x0106 1 (some 0) false .scaledUnsigned,
   regDef .solarVoltage .realTime 0x0107 1 (some 1) false .scaledUnsigned,
   regDef .solarCurrent .realTime 0x0108 1 (some 2) false .scaledUnsigned,
   regDef .solarPower .realTime 0x0109 1 (some 0) false .scaledUnsigned,
   regDef .loadStatus .realTime 0x010A 1 none false .booleanFlag]

/-- Entry 14 of R193. -/
def controlEntries : List RegDef := [regDef .loadControl .control 0x010A 1 none false .booleanFlag]

/-- The place of a group in the map's order (R191). -/
def groupRank (g : Group) : Nat :=
  match g with
  | .deviceInfo => 0
  | .realTime => 1
  | .dailyStats => 2
  | .historicalStats => 3
  | .control => 4

/-- `e1` may stand before `e2` in the map: its group comes earlier (R191), or they share the group and `e2` starts at or
after `e1`'s end (R191, R192). -/
def precedes (e1 e2 : RegDef) : Bool :=
  groupRank e1.group < groupRank e2.group ||
    (e1.group == e2.group && e1.address.toNat + e1.length ≤ e2.address.toNat)

/-- Entries are in the map's order, and those of one group do not overlap (R191, R192). -/
def mapOrdered (es : List RegDef) : Bool :=
  match es with
  | [] => true
  | e :: rest => rest.all (precedes e) && mapOrdered rest

/-- What R190 says of one entry: a length of 1 to 127, a scale of R211, and the sign flag on controller and battery
temperatures only, that is on the packed temperature kind (log 14). -/
def entryFieldsOk (e : RegDef) : Bool :=
  1 ≤ e.length && e.length ≤ 127 && (!e.signed || e.kind == .scaledSignedSplitByte) &&
    (match e.scale with
     | some k => k ≤ 2
     | none => true)

/-- An OPEN entry is in one of the two groups the source leaves open (R196) and meets R190. -/
def openEntryOk (e : RegDef) : Bool := (e.group == .dailyStats || e.group == .historicalStats) && entryFieldsOk e

/-- The names of OPEN entries are new ones, each once (R191). -/
def openNamesOk (es : List RegDef) : Bool :=
  es.all (fun e => match e.name with
    | .extra _ => true
    | _ => false) && decide (es.map (·.name)).Nodup

/-- The OPEN entries meet R190 to R192: fields, names, and the order of the map. -/
def openEntriesOk (es : List RegDef) : Bool := es.all openEntryOk && openNamesOk es && mapOrdered es

/-- The OPEN part of `REGMAP` (R196): the parameter where it meets R190 to R192, else empty (log 14). -/
def openEntries : List RegDef := if openEntriesOk Config.extraEntries then Config.extraEntries else []

/-- `REGMAP`, in the order of R191: device-info, real-time, daily-stats and historical-stats (the OPEN entries), control. -/
def regMap : List RegDef := deviceInfoEntries ++ (realTimeEntries ++ (openEntries ++ controlEntries))

/-- The entries of `REGMAP` by index (R199): 0 to 14 as R193 numbers them, which puts `load_control` before the OPEN entries;
these take the numbers from 15 on, in the map's order, without gaps (log 30). -/
def indexTable : List RegDef := deviceInfoEntries ++ (realTimeEntries ++ (controlEntries ++ openEntries))

/-- The entries of a group, in the map's order (R191). -/
def groupEntries (g : Group) : List RegDef :=
  match g with
  | .deviceInfo => deviceInfoEntries
  | .realTime => realTimeEntries
  | .dailyStats => openEntries.filter (·.group == .dailyStats)
  | .historicalStats => openEntries.filter (·.group == .historicalStats)
  | .control => controlEntries

/-- `first`: the least address of the entries `e :: es` (R195). -/
def spanFirst (e : RegDef) (es : List RegDef) : Nat := es.foldl (fun a x => min a x.address.toNat) e.address.toNat

/-- `last`: the greatest `address + length` of the entries `e :: es` (R195). -/
def spanLast (e : RegDef) (es : List RegDef) : Nat :=
  es.foldl (fun a x => max a (x.address.toNat + x.length)) (e.address.toNat + e.length)

/-- The address span of a list of entries, `(first, last - first)` (R192, R195); none for an empty list. -/
def spanOf (es : List RegDef) : Option (Word × Nat) :=
  match es with
  | [] => none
  | e :: rest => some (BitVec.ofNat 16 (spanFirst e rest), spanLast e rest - spanFirst e rest)

/-- RMLOOKUP (R194, R199). -/
def execRmlookup (index : Word) (s : State) : Out :=
  match indexTable[index.toNat]? with
  | some e => .next (s.finish (.entry e))
  | none => .refused .unknownEntry

/-- RMSPAN (R195). -/
def execRmspan (g : Group) (s : State) : Out :=
  match spanOf (groupEntries g) with
  | some (start, count) => .next (s.finish (.span start count))
  | none => .refused .emptyGroup

end Sys2Proof.Machine
end

