-- ==== Sys2Proof/Machine/Sequencer.lean ====
section
/-! DEFINITION. Unit U4's state machine: one row of R171 per phase transition, an exchange run to its end, and the gates before it. -/

namespace Sys2Proof.Machine

/-- Row `Sent` of R171 (R151, R152): the header read. -/
def stepSent (s : State) : Out :=
  match headerOf (s.rxReadBytes 3) with
  | some h => .next { s.rxReadState 3 with hdr := h, phase := .headerReceived }
  | none => .next ((s.rxReadState 3).failExchange .communicationTimeout)

/-- Rows `HeaderReceived` of R171: the exception test first (R153), then the remainder read (R155, R160). -/
def stepHeaderReceived (s : State) : Out :=
  let n := remainderLength s.request s.hdr
  if isException s.hdr then .next { s with phase := .exceptionDetected }
  else if (s.rxReadBytes n).length < n then .next ((s.rxReadState n).failExchange .communicationTimeout)
  else
    .next { s.rxReadState n with
      rxbuf := headerBytes s.hdr ++ s.rxReadBytes n, rxlen := 3 + n, phase := .payloadReceived }

/-- Row `ExceptionDetected` of R171 (R154): the two checksum bytes are consumed, not looked at. -/
def stepExceptionDetected (s : State) : Out :=
  .next ((s.rxReadState 2).failExchange (.protocolException s.hdr.third s.hdr.functionCode))

/-- Rows `PayloadReceived` of R171 (R156, R160): validation. -/
def stepPayloadReceived (s : State) : Out :=
  let s1 := s.runVerify (s.rxbuf.take s.rxlen)
  if s1.verifyOk then .next { s1 with phase := .validated } else .next (s1.failExchange .crcMismatch)

/-- The payload of a validated read response (R157). -/
def strippedPayload (s : State) : List Byte := (s.rxbuf.drop 3).take s.hdr.third.toNat

/-- The word file after a decode (R158). -/
def State.latchWords (ws : List Word) (s : State) : State := { s with w := ws, wcnt := ws.length }

/-- `W`, `WCNT`, `RES` and `STATUS` after a decode (R158): `RES` is the words of the file. -/
def State.finishWords (ws : List Word) (s : State) : State := (s.latchWords ws).finish (.words ws)

/-- Rows `Validated` of R171 (R157 to R160): a read gives its words, or has no result where `byte_count` is not twice the count. -/
def stepValidated (s : State) : Out :=
  match s.request with
  | .read _ count =>
    match bytesToWords (strippedPayload s) with
    | some ws =>
      if s.hdr.third.toNat = 2 * count.toNat then
        .next { s.finishWords ws with phase := .complete }
      else .refused .payloadLength
    | none => .refused .payloadLength
  | .write _ _ => .next { s.finish .nothing with phase := .complete }

/-- One transition of `PHASE` (R171). -/
def phaseStep (s : State) : Out :=
  match s.phase with
  | .idle => .next s
  | .sent => stepSent s
  | .headerReceived => stepHeaderReceived s
  | .exceptionDetected => stepExceptionDetected s
  | .payloadReceived => stepPayloadReceived s
  | .validated => stepValidated s
  | .complete => .next s.handOver
  | .failed => .next s.handOver

/-- Transitions until `PHASE` is `Idle`, at most `k` of them. -/
def runPhases : Nat → State → Out
  | 0, s => .next s
  | k + 1, s =>
    if s.phase = .idle then .next s
    else
      match phaseStep s with
      | .next s1 => runPhases k s1
      | .fault f => .fault f
      | .refused r => .refused r

/-- The exchange that is in progress, run to its end (R172, R178, R300): five transitions reach `Idle` from `Sent`. -/
def finishExchange (s : State) : Out := runPhases 5 s

/-- The tests before a request is written: connection first (R183, D19), no exchange in progress (R178, R290; log 12),
device id in its domain (R143). -/
def sendGated (d : Byte) (s : State) (go : Out) : Out :=
  if s.connected = false then .next (s.raise .notConnected)
  else if s.phase ≠ .idle then .refused .operationInProgress
  else if deviceIdOk d = false then .refused .deviceIdDomain
  else go

/-- One whole exchange of a transactional operation (R171, R175, R176). -/
def transact (r : Request) (s : State) : Out :=
  sendGated s.cfgDeviceId s (finishExchange (s.sendRequest s.cfgDeviceId r))

/-- An operation that applies `k` to the state of a successful exchange; an error of the exchange is handed on as it
stands (R231, R234, R236). -/
def onSuccess (o : Out) (k : State → Out) : Out :=
  match o with
  | .next t => if t.status = .ok then k t else .next t
  | .fault f => .fault f
  | .refused r => .refused r

/-- Bytes arrive (R44, R258): lost where no transport is open (R182; log 13), buffered where no exchange waits,
else received by the exchange that is in progress. DESIGN CHOICE (log 31): the first arrival, of no bytes too, makes a waiting
exchange do all its reads at once, each ending by its deadline (R300); a deadline that passes with nothing arriving is an
arrival of no bytes, with nothing from the environment. -/
def arrive (bs : List Byte) (s : State) : Out :=
  if s.connected = false then .next s else finishExchange (s.receiveBytes bs)

end Sys2Proof.Machine
end

