-- ==== Sys2Proof/Machine/Transaction.lean ====
section
/-! DEFINITION. Operations CONNECT, DISCONNECT, RDREGS, WRREG (43_transaction). -/

namespace Sys2Proof.Machine

/-- CONNECT (R181); refused while connected. -/
def execConnect (s : State) : Out :=
  if s.connected = true then .refused .alreadyConnected
  else
    .next (if s.opensNow then s.dropOpen.openLink.finish .nothing else s.dropOpen.raise .connectionFailure)

/-- DISCONNECT (R182): allowed in any state between operations. -/
def execDisconnect (s : State) : Out :=
  if s.phase ≠ .idle then .refused .operationInProgress
  else .next ((if s.connected then s.closeLink else s).finish .nothing)

/-- RDREGS (R175). -/
def execRdregs (start count : Word) (s : State) : Out := transact (.read start count) s

/-- WRREG (R176). -/
def execWrreg (address value : Word) (s : State) : Out := transact (.write address value) s

end Sys2Proof.Machine
end

