-- ==== Sys2Proof/Machine/Composite.lean ====
section
/-! DEFINITION. Operations RDRT, RDINFO, SETLOAD, GETLOAD (46_composite). -/

namespace Sys2Proof.Machine

/-- RDRT (R231): the span of the real-time group is read in one exchange and assembled. -/
def execRdrt (s : State) : Out :=
  match spanOf (groupEntries .realTime) with
  | some (start, count) =>
    onSuccess (transact (.read start (BitVec.ofNat 16 count)) s) fun t =>
      match assembleRealtime t.w with
      | some r => .next (t.finish (.reading r))
      | none => .refused .blockLength
  | none => .refused .emptyGroup

/-- One `attempt` of RDINFO (R232, R235): the words where the exchange succeeded; an error kind is dropped, a refusal is not. -/
def attempt (start count : Word) (s : State) : Host.Outcome (Option (List Word) × State) Fault Refusal :=
  match transact (.read start count) s with
  | .next t => .next (if t.status = .ok then some t.w else none, t)
  | .fault f => .fault f
  | .refused r => .refused r

/-- A version field of the version block (R217, R232); empty where its attempt failed. -/
def versionField (index : Fin 4) (block : Option (List Word)) : Text :=
  match block with
  | some ws => cvtVer (ws.getD index.val 0)
  | none => []

/-- A text field of the device-info record (R232); empty where its attempt failed. -/
def asciiField (block : Option (List Word)) : Text :=
  match block with
  | some ws => cvtAscii ws
  | none => []

/-- The device-info record of the three attempts (R232). -/
def deviceInfoOf (hw sw : Fin 4) (model serial version : Option (List Word)) : DeviceInfo :=
  ⟨asciiField model, asciiField serial, versionField hw version, versionField sw version⟩

/-- After a failed attempt `EXC_CODE` and `EXC_FC` are unspecified at the end of RDINFO: free values (R232, X20; log 10). -/
def State.forgetException (s : State) : State :=
  { s with excCode := Config.freeByte s.free, excFc := Config.freeByte (s.free + 1), free := s.free + 2 }

/-- The end of RDINFO: `RES <- info ; STATUS <- OK` whatever the attempts did (R232). -/
def finishInfo (hw sw : Fin 4) (model serial version : Option (List Word)) (s : State) : State :=
  let t := s.finish (.info (deviceInfoOf hw sw model serial version))
  if model.isSome && serial.isSome && version.isSome then t else t.forgetException

/-- The three attempts in the order model, serial number, version (R232). -/
def readDeviceInfo (hw sw : Fin 4) (s : State) : Out :=
  if s.connected = false then .next (s.raise .notConnected)
  else
    match attempt aModel nModel s with
    | .fault f => .fault f
    | .refused r => .refused r
    | .next (model, s1) =>
      match attempt aSerial nSerial s1 with
      | .fault f => .fault f
      | .refused r => .refused r
      | .next (serial, s2) =>
        match attempt aVer nVer s2 with
        | .fault f => .fault f
        | .refused r => .refused r
        | .next (version, s3) => .next (finishInfo hw sw model serial version s3)

/-- RDINFO (R232), for the machine's `HW_VER_WORD` and `SW_VER_WORD` (R217). -/
def execRdinfo (s : State) : Out := readDeviceInfo Config.hwVerWord Config.swVerWord s

/-- SETLOAD (R233): 1 for on, 0 for off. -/
def execSetload (on : Bool) (s : State) : Out :=
  transact (.write aLoad (if on then 0x0001 else 0x0000)) s

/-- GETLOAD (R234). -/
def execGetload (s : State) : Out :=
  onSuccess (transact (.read aLoad 1) s) fun t => .next (t.finish (.flag (cvtFlag (t.w.getD 0 0))))

end Sys2Proof.Machine
end

