-- ==== Sys2Proof/Machine/Crc.lean ====
section
/-! DEFINITION. Operations CRC16 and VERIFY (40_crc). -/

namespace Sys2Proof.Machine

/-- CRC16 (R132). -/
def execCrc16 (m : List Byte) (s : State) : Out :=
  .next ((s.withChecksum m).finish (.word (crc16 m)))

/-- VERIFY (R134): a wrong checksum is the result `false`, not an error. -/
def execVerify (buf : List Byte) (s : State) : Out :=
  .next ((s.runVerify buf).finish (.flag (verify buf)))

end Sys2Proof.Machine
end

