-- ==== Sys2Proof/Machine/FrameDecode.lean ====
section
/-! DEFINITION. Operations PARSEHDR and WORDS (42_frame_decode). -/

namespace Sys2Proof.Machine

/-- PARSEHDR (R151). -/
def execParsehdr (h : List Byte) (s : State) : Out :=
  if 3 < h.length then .refused .headerTooLong
  else
    match headerOf h with
    | some hd => .next ({ s with hdr := hd }.finish (.header hd))
    | none => .next (s.raise .communicationTimeout)

/-- The words held after a decode of more words than `W` has room for: free, but for `W`'s capacity (R25; log 16). -/
def State.freeWordFile (s : State) : List Word := (Config.freeWords s.free).take wordFileCapacity

/-- WORDS (R158, R159). DESIGN CHOICE (log 16): beyond R158's 127 words it runs too, and the word sequence is a free value. -/
def execWords (p : List Byte) (s : State) : Out :=
  match bytesToWords p with
  | none => .refused .oddPayload
  | some ws =>
    if ws.length ≤ wordFileCapacity then .next (s.finishWords ws)
    else .next { s.finishWords s.freeWordFile with free := s.free + 1 }

end Sys2Proof.Machine
end

