-- ==== Sys2Proof/Machine/FrameEncode.lean ====
section
/-! DEFINITION. Operations BLDRD and BLDWR (41_frame_encode). -/

namespace Sys2Proof.Machine

/-- BLDRD (R141); operands outside the domains are refused (R143). -/
def execBldrd (d f : Byte) (start count : Word) (s : State) : Out :=
  if deviceIdOk d = false then .refused .deviceIdDomain
  else if functionCodeOk f = false then .refused .functionCodeDomain
  else .next ((s.buildFrame d f start count).finish (.frame (frame8 d f start count)))

/-- BLDWR (R142); a device id outside 1 to 247 is refused (R143). -/
def execBldwr (d : Byte) (address value : Word) (s : State) : Out :=
  if deviceIdOk d = false then .refused .deviceIdDomain
  else .next ((s.buildFrame d fcWrite address value).finish (.frame (frame8 d fcWrite address value)))

end Sys2Proof.Machine
end

