-- ==== Sys2Proof/Machine/Wire.lean ====
section
/-! DEFINITION. The wire shapes REQ.READ, REQ.WRITE, RSP.READ, RSP.WRITE, RSP.EXC (30_encoding) as transport events of an exchange (R7; log 3). -/

namespace Sys2Proof.Machine

/-- A request frame is written (R171, row Idle): the gates of every request, and the checksum is the frame's (log 17).
DESIGN CHOICE (log 29): the frame goes out with the device id it carries, any of 1 to 247, which is not compared with
`CFG_DEVICE_ID`; the transactional operations always put `CFG_DEVICE_ID` there (R36, R175, R176). -/
def sendFrame (d : Byte) (r : Request) (crc : Word) (s : State) : Out :=
  sendGated d s (if crc = requestCrc d r then .next (s.sendRequest d r) else .refused .requestChecksum)

/-- REQ.READ (R91); its device id: log 29. -/
def execReqRead (d : Byte) (start count crc : Word) (s : State) : Out := sendFrame d (.read start count) crc s

/-- REQ.WRITE (R92); its device id: log 29. -/
def execReqWrite (d : Byte) (address value crc : Word) (s : State) : Out := sendFrame d (.write address value) crc s

/-- RSP.READ (R93): the frame arrives; an exchange that waits receives it by R152 to R159. -/
def execRspRead (d f : Byte) (data : List Byte) (crc : Word) (s : State) : Out := arrive (rspReadBytes d f data crc) s

/-- RSP.WRITE (R94): the frame arrives; an exchange that waits receives it by R152, R160. -/
def execRspWrite (d f : Byte) (address value crc : Word) (s : State) : Out :=
  arrive (rspWriteBytes d f address value crc) s

/-- RSP.EXC (R95): the frame arrives; an exchange that waits receives it by R152 to R154. -/
def execRspExc (d f code : Byte) (crc : Word) (s : State) : Out := arrive (rspExcBytes d f code crc) s

end Sys2Proof.Machine
end

