-- ==== Sys2Proof/Machine/Dispatch.lean ====
section
/-! DEFINITION. exec: one arm per instruction, each one call of its meaning. -/

namespace Sys2Proof.Machine

def exec (i : Instr) (s : State) : Host.Outcome State Fault Refusal :=
  match i with
  | .crc16 m => Sys2Proof.Machine.execCrc16 m s
  | .verify buf => Sys2Proof.Machine.execVerify buf s
  | .bldrd d f a n => Sys2Proof.Machine.execBldrd d f a n s
  | .bldwr d a v => Sys2Proof.Machine.execBldwr d a v s
  | .parsehdr h => Sys2Proof.Machine.execParsehdr h s
  | .words p => Sys2Proof.Machine.execWords p s
  | .connect => Sys2Proof.Machine.execConnect s
  | .disconnect => Sys2Proof.Machine.execDisconnect s
  | .rdregs a n => Sys2Proof.Machine.execRdregs a n s
  | .wrreg a v => Sys2Proof.Machine.execWrreg a v s
  | .rmlookup n => Sys2Proof.Machine.execRmlookup n s
  | .rmspan g => Sys2Proof.Machine.execRmspan g s
  | .cvtscale r k => Sys2Proof.Machine.execCvtscale r k s
  | .cvttemp r => Sys2Proof.Machine.execCvttemp r s
  | .cvtflag r => Sys2Proof.Machine.execCvtflag r s
  | .cvtascii ws => Sys2Proof.Machine.execCvtascii ws s
  | .cvtver r => Sys2Proof.Machine.execCvtver r s
  | .asmrt ws => Sys2Proof.Machine.execAsmrt ws s
  | .rdrt => Sys2Proof.Machine.execRdrt s
  | .rdinfo => Sys2Proof.Machine.execRdinfo s
  | .setload on => Sys2Proof.Machine.execSetload on s
  | .getload => Sys2Proof.Machine.execGetload s
  | .reqRead d a n c => Sys2Proof.Machine.execReqRead d a n c s
  | .reqWrite d a v c => Sys2Proof.Machine.execReqWrite d a v c s
  | .rspRead d f data c => Sys2Proof.Machine.execRspRead d f data c s
  | .rspWrite d f a v c => Sys2Proof.Machine.execRspWrite d f a v c s
  | .rspExc d f code c => Sys2Proof.Machine.execRspExc d f code c s

end Sys2Proof.Machine
end

