-- ==== Sys2Proof/Decode.lean ====
section
/-! DEFINITION. The decoder of the command port and of the wire shapes, total on any bytes and rejecting by name, and the encoder after it.
Command port: the select byte of R104 and the operands as bytes in the order of R106, 16-bit operands high byte first (log 2). Wire: R90 to R99. -/

namespace Sys2Proof

open Sys2Proof.Machine

/-- Why bytes at a port are no instruction. -/
inductive DecodeError where
  /-- No select byte (command port). -/
  | empty
  /-- A select code that selects no operation (R105). -/
  | reservedSelect
  /-- The operand bytes do not have the operation's layout (log 2). -/
  | operandLayout
  /-- A word sequence of an odd number of bytes (log 2). -/
  | oddWords
  /-- A Boolean operand other than 0 or 1 (log 2). -/
  | flagValue
  /-- A group number other than 0 to 4 (R199). -/
  | groupNumber
  /-- A request with a function code other than 0x03 and 0x06 (R101, R102 (a)). -/
  | requestFunction
  /-- The number of bytes is not the length of the frame's shape (R91 to R95, R99). -/
  | frameLength
  deriving DecidableEq, Repr

/-- The group numbers of the command port (R199). -/
def groupOfNumber (n : Nat) : Option Group :=
  match n with
  | 0 => some .deviceInfo
  | 1 => some .realTime
  | 2 => some .dailyStats
  | 3 => some .historicalStats
  | 4 => some .control
  | _ => none

/-- The Boolean operand of SETLOAD (log 2). -/
def flagOfNumber (n : Nat) : Option Bool :=
  match n with
  | 0 => some false
  | 1 => some true
  | _ => none

/-- The word-sequence operand of CVTASCII and ASMRT: the rest of the command (log 2). -/
def wordsOperand (make : List Word → Instr) (t : List Byte) : Except DecodeError Instr :=
  match bytesToWords t with
  | some ws => .ok (make ws)
  | none => .error .oddWords

/-- The operation a select code selects, applied to the operand bytes (R104; log 2). -/
def decodeOperation (select : Nat) (t : List Byte) : Except DecodeError Instr :=
  match select with
  | 0x00 => .ok (.crc16 t)
  | 0x01 => .ok (.verify t)
  | 0x02 =>
    match t with
    | [d, f, a1, a0, n1, n0] => .ok (.bldrd d f (fromBe16 a1 a0) (fromBe16 n1 n0))
    | _ => .error .operandLayout
  | 0x03 =>
    match t with
    | [d, a1, a0, v1, v0] => .ok (.bldwr d (fromBe16 a1 a0) (fromBe16 v1 v0))
    | _ => .error .operandLayout
  | 0x04 => .ok (.parsehdr t)
  | 0x05 => .ok (.words t)
  | 0x06 =>
    match t with
    | [] => .ok .connect
    | _ => .error .operandLayout
  | 0x07 =>
    match t with
    | [] => .ok .disconnect
    | _ => .error .operandLayout
  | 0x08 =>
    match t with
    | [a1, a0, n1, n0] => .ok (.rdregs (fromBe16 a1 a0) (fromBe16 n1 n0))
    | _ => .error .operandLayout
  | 0x09 =>
    match t with
    | [a1, a0, v1, v0] => .ok (.wrreg (fromBe16 a1 a0) (fromBe16 v1 v0))
    | _ => .error .operandLayout
  | 0x0A =>
    match t with
    | [i1, i0] => .ok (.rmlookup (fromBe16 i1 i0))
    | _ => .error .operandLayout
  | 0x0B =>
    match t with
    | [g] =>
      match groupOfNumber g.toNat with
      | some group => .ok (.rmspan group)
      | none => .error .groupNumber
    | _ => .error .operandLayout
  | 0x0C =>
    match t with
    | [r1, r0, k] => .ok (.cvtscale (fromBe16 r1 r0) k)
    | _ => .error .operandLayout
  | 0x0D =>
    match t with
    | [r1, r0] => .ok (.cvttemp (fromBe16 r1 r0))
    | _ => .error .operandLayout
  | 0x0E =>
    match t with
    | [r1, r0] => .ok (.cvtflag (fromBe16 r1 r0))
    | _ => .error .operandLayout
  | 0x0F => wordsOperand .cvtascii t
  | 0x10 =>
    match t with
    | [r1, r0] => .ok (.cvtver (fromBe16 r1 r0))
    | _ => .error .operandLayout
  | 0x11 => wordsOperand .asmrt t
  | 0x12 =>
    match t with
    | [] => .ok .rdrt
    | _ => .error .operandLayout
  | 0x13 =>
    match t with
    | [] => .ok .rdinfo
    | _ => .error .operandLayout
  | 0x14 =>
    match t with
    | [b] =>
      match flagOfNumber b.toNat with
      | some on => .ok (.setload on)
      | none => .error .flagValue
    | _ => .error .operandLayout
  | 0x15 =>
    match t with
    | [] => .ok .getload
    | _ => .error .operandLayout
  | _ => .error .reservedSelect

/-- The command port: the select byte, then the operands (R103, R104). -/
def decodeCommand (bytes : List Byte) : Except DecodeError Instr :=
  match bytes with
  | [] => .error .empty
  | select :: t => decodeOperation select.toNat t

/-- A request frame, told by its function code (R91, R92, R101). -/
def decodeRequest (bytes : List Byte) : Except DecodeError Instr :=
  match bytes with
  | [d, f, x1, x0, y1, y0, c0, c1] =>
    if f = fcRead then .ok (.reqRead d (fromBe16 x1 x0) (fromBe16 y1 y0) (fromLe16 c0 c1))
    else if f = fcWrite then .ok (.reqWrite d (fromBe16 x1 x0) (fromBe16 y1 y0) (fromLe16 c0 c1))
    else .error .requestFunction
  | _ => .error .frameLength

/-- The exception shape (R95), tested before any other (R99 (a)). -/
def decodeException (bytes : List Byte) : Except DecodeError Instr :=
  match bytes with
  | [d, f, code, c0, c1] => .ok (.rspExc d f code (fromLe16 c0 c1))
  | _ => .error .frameLength

/-- The normal response to REQ.READ (R93, R99 (b)): `byte_count` data bytes and two checksum bytes. -/
def decodeReadData (d f count : Byte) (t : List Byte) : Except DecodeError Instr :=
  if t.length = count.toNat + 2 then
    .ok (.rspRead d f (t.take count.toNat) (fromLe16 (t.getD count.toNat 0) (t.getD (count.toNat + 1) 0)))
  else .error .frameLength

/-- A response while REQ.READ is outstanding (R99 (a), (b)). -/
def decodeReadResponse (bytes : List Byte) : Except DecodeError Instr :=
  match bytes with
  | d :: f :: third :: t =>
    if f.getLsbD 7 then decodeException bytes else decodeReadData d f third t
  | _ => .error .frameLength

/-- A response while REQ.WRITE is outstanding (R99 (a), (c)). -/
def decodeWriteResponse (bytes : List Byte) : Except DecodeError Instr :=
  match bytes with
  | d :: f :: t =>
    if f.getLsbD 7 then decodeException bytes
    else
      match t with
      | [a1, a0, v1, v0, c0, c1] =>
        .ok (.rspWrite d f (fromBe16 a1 a0) (fromBe16 v1 v0) (fromLe16 c0 c1))
      | _ => .error .frameLength
  | _ => .error .frameLength

/-- The instruction the bytes at a port are. -/
def decode (p : Port) (bytes : List Byte) : Except DecodeError Instr :=
  match p with
  | .command => decodeCommand bytes
  | .request => decodeRequest bytes
  | .readResponse => decodeReadResponse bytes
  | .writeResponse => decodeWriteResponse bytes

/-- The number of a group (R199). -/
def groupNumber : Group → Byte
  | .deviceInfo => 0
  | .realTime => 1
  | .dailyStats => 2
  | .historicalStats => 3
  | .control => 4

/-- The port an instruction is presented at. -/
def Instr.port : Instr → Port
  | .reqRead _ _ _ _ => .request
  | .reqWrite _ _ _ _ => .request
  | .rspRead _ _ _ _ => .readResponse
  | .rspWrite _ _ _ _ _ => .writeResponse
  | .rspExc _ _ _ _ => .readResponse
  | .crc16 _ => .command
  | .verify _ => .command
  | .bldrd _ _ _ _ => .command
  | .bldwr _ _ _ => .command
  | .parsehdr _ => .command
  | .words _ => .command
  | .connect => .command
  | .disconnect => .command
  | .rdregs _ _ => .command
  | .wrreg _ _ => .command
  | .rmlookup _ => .command
  | .rmspan _ => .command
  | .cvtscale _ _ => .command
  | .cvttemp _ => .command
  | .cvtflag _ => .command
  | .cvtascii _ => .command
  | .cvtver _ => .command
  | .asmrt _ => .command
  | .rdrt => .command
  | .rdinfo => .command
  | .setload _ => .command
  | .getload => .command

/-- The bytes of an instruction: select byte and operands (R104), or the frame (R91 to R95). -/
def encode : Instr → List Byte
  | .crc16 m => 0x00 :: m
  | .verify buf => 0x01 :: buf
  | .bldrd d f a n => 0x02 :: d :: f :: (be16 a ++ be16 n)
  | .bldwr d a v => 0x03 :: d :: (be16 a ++ be16 v)
  | .parsehdr h => 0x04 :: h
  | .words p => 0x05 :: p
  | .connect => [0x06]
  | .disconnect => [0x07]
  | .rdregs a n => 0x08 :: (be16 a ++ be16 n)
  | .wrreg a v => 0x09 :: (be16 a ++ be16 v)
  | .rmlookup i => 0x0A :: be16 i
  | .rmspan g => [0x0B, groupNumber g]
  | .cvtscale r k => 0x0C :: (be16 r ++ [k])
  | .cvttemp r => 0x0D :: be16 r
  | .cvtflag r => 0x0E :: be16 r
  | .cvtascii ws => 0x0F :: wordsToBytes ws
  | .cvtver r => 0x10 :: be16 r
  | .asmrt ws => 0x11 :: wordsToBytes ws
  | .rdrt => [0x12]
  | .rdinfo => [0x13]
  | .setload on => [0x14, if on then 1 else 0]
  | .getload => [0x15]
  | .reqRead d a n c => reqBytes d fcRead a n c
  | .reqWrite d a v c => reqBytes d fcWrite a v c
  | .rspRead d f data c => rspReadBytes d f data c
  | .rspWrite d f a v c => rspWriteBytes d f a v c
  | .rspExc d f code c => rspExcBytes d f code c

/-- The number of operand bytes of an operation whose operand is not a byte sequence of any length
(for ASMRT its eleven words, R218); a sequence operand may be empty. -/
def operandBytes (select : Nat) : Nat :=
  match select with
  | 0x02 => 6
  | 0x03 => 5
  | 0x08 => 4
  | 0x09 => 4
  | 0x0A => 2
  | 0x0B => 1
  | 0x0C => 3
  | 0x0D => 2
  | 0x0E => 2
  | 0x10 => 2
  | 0x11 => 22
  | 0x14 => 1
  | _ => 0

/-- The port of an opcode-table row, by the bits the table gives it: 5 (one byte) for a command, 24 for the header
of RSP.READ, 40 for RSP.EXC, 64 for a request (log 18). -/
def tablePort (nbits : Nat) : Port :=
  if nbits ≤ 8 then .command else if nbits ≤ 40 then .readResponse else .request

/-- The bytes of an opcode-table row's instruction. A frame is numbered as R90 numbers it, first byte most significant;
what the row gives no bits is zero, up to the length R99 finds from the header (log 18). -/
def tableBytes (nbits w : Nat) : List Byte :=
  if nbits ≤ 8 then BitVec.ofNat 8 w :: List.replicate (operandBytes w) 0
  else if nbits ≤ 24 then
    bytesOfNumber 3 w ++ List.replicate (if w.testBit 15 then 2 else w % 256 + 2) 0
  else if nbits ≤ 40 then bytesOfNumber 5 w
  else bytesOfNumber 8 w

/-- The instruction the decoder reads from an opcode-table word. -/
def decodeTableWord (nbits w : Nat) : Option Instr :=
  match decode (tablePort nbits) (tableBytes nbits w) with
  | .ok i => some i
  | .error _ => none

end Sys2Proof
end

