-- ==== Sys2Proof/Machine/Fetch.lean ====
section
/-! DEFINITION. Taking the next input, and what bytes that are no instruction do at each port. -/

namespace Sys2Proof.Machine

/-- The state with its oldest input taken. -/
def State.takeInput (s : State) : State := { s with inputs := s.inputs.drop 1 }

/-- The state with an input put before all others. -/
def State.offerInput (x : Input) (s : State) : State := { s with inputs := x :: s.inputs }

/-- Bytes that are no instruction: at the command and request ports no operation is selected (R105; log 2, log 17);
on the input stream they are bytes that arrive, whole frame or not (R71, R258; log 4). -/
def rejectBytes (p : Port) (bs : List Byte) (s : State) : Out :=
  match p with
  | .command => .refused .notAnInstruction
  | .request => .refused .notAnInstruction
  | .readResponse => arrive bs s
  | .writeResponse => arrive bs s

end Sys2Proof.Machine
end

