-- ==== Sys2Proof/Machine/Step.lean ====
section
/-! DEFINITION. One step (R7): the next input is taken, decoded and executed; with no input the engine waits for the host (R280),
or, DESIGN CHOICE (log 31), for the arrival that ends the reads of an exchange in `Sent`. -/

namespace Sys2Proof.Machine

def step (s : State) : Host.Outcome State Fault Refusal :=
  match s.inputs with
  | [] => .next s
  | .configure c :: _ => .next (s.takeInput.configure c)
  | .bytes p bs :: _ =>
    match decode p bs with
    | .ok i => exec i s.takeInput
    | .error _ => rejectBytes p bs s.takeInput

/-- The bytes of an opcode-table word are presented at the row's port, before every other input (log 20). -/
def State.withFetchWord (s : State) (nbits w : Nat) : State :=
  s.offerInput (.bytes (tablePort nbits) (tableBytes nbits w))

end Sys2Proof.Machine
end

