-- ==== Sys2Proof/Safety.lean ====
section
/-! DEFINITION. What claims call a good state: the invariant every step keeps, and the kinds of operation (R104). -/

namespace Sys2Proof.Machine

/-- The engine's invariant: `RXLEN` and `WCNT` count what the buffers hold, within their capacities (R24, R25; log 16, log 26);
`CONNECTED` is 1 exactly while a transport is open, and no input is buffered without one (R34, R74, R182; log 13);
between steps `PHASE` is `Idle`, or `Sent` while an exchange waits for its response on an open transport (R29, R171; log 3). -/
abbrev State.Inv (s : State) : Prop :=
  s.rxlen = s.rxbuf.length ∧ s.rxlen ≤ 260 ∧ s.wcnt = s.w.length ∧ s.wcnt ≤ wordFileCapacity ∧
  s.connected = s.env.link.isSome ∧ (s.connected = false → s.env.rxq = []) ∧
  (s.phase = .idle ∨ (s.phase = .sent ∧ s.connected = true))

/-- The pure operations (R104, column "kind"). -/
def isPure : Instr → Bool
  | .crc16 _ => true
  | .verify _ => true
  | .bldrd _ _ _ _ => true
  | .bldwr _ _ _ => true
  | .parsehdr _ => true
  | .words _ => true
  | .rmlookup _ => true
  | .rmspan _ => true
  | .cvtscale _ _ => true
  | .cvttemp _ => true
  | .cvtflag _ => true
  | .cvtascii _ => true
  | .cvtver _ => true
  | .asmrt _ => true
  | .connect => false
  | .disconnect => false
  | .rdregs _ _ => false
  | .wrreg _ _ => false
  | .rdrt => false
  | .rdinfo => false
  | .setload _ => false
  | .getload => false
  | .reqRead _ _ _ _ => false
  | .reqWrite _ _ _ _ => false
  | .rspRead _ _ _ _ => false
  | .rspWrite _ _ _ _ _ => false
  | .rspExc _ _ _ _ => false

/-- The transactional operations (R104, R183). -/
def isTransactional : Instr → Bool
  | .rdregs _ _ => true
  | .wrreg _ _ => true
  | .rdrt => true
  | .rdinfo => true
  | .setload _ => true
  | .getload => true
  | .crc16 _ => false
  | .verify _ => false
  | .bldrd _ _ _ _ => false
  | .bldwr _ _ _ => false
  | .parsehdr _ => false
  | .words _ => false
  | .connect => false
  | .disconnect => false
  | .rmlookup _ => false
  | .rmspan _ => false
  | .cvtscale _ _ => false
  | .cvttemp _ => false
  | .cvtflag _ => false
  | .cvtascii _ => false
  | .cvtver _ => false
  | .asmrt _ => false
  | .reqRead _ _ _ _ => false
  | .reqWrite _ _ _ _ => false
  | .rspRead _ _ _ _ => false
  | .rspWrite _ _ _ _ _ => false
  | .rspExc _ _ _ _ => false

/-- A transactional operation may run here: connected, no exchange in progress, a device id in its domain (R183, R178, R143). -/
def State.ready (s : State) : Bool :=
  s.connected && s.phase == .idle && deviceIdOk s.cfgDeviceId

/-- The environment answers REQ.READ for `count` registers with this header and this payload, whole, bit 7 of the function
code clear, `byte_count` the payload's length, the checksum right, low byte first (R71, R93, R153 to R156). -/
def ReadAnswered (s : State) (start count : Word) (h : Header) (data : List Byte) : Prop :=
  (s.sendRequest s.cfgDeviceId (.read start count)).rxReadBytes 3 = headerBytes h ∧
  h.functionCode &&& 0x80 = 0 ∧ h.third.toNat = data.length ∧
  ((s.sendRequest s.cfgDeviceId (.read start count)).rxReadState 3).rxReadBytes (data.length + 2) =
    data ++ le16 (crc16 (headerBytes h ++ data))

/-- The environment answers REQ.WRITE with this header and three more bytes before a right checksum (R71, R94, R160). -/
def WriteAnswered (s : State) (address value : Word) (h : Header) (b3 b4 b5 : Byte) : Prop :=
  (s.sendRequest s.cfgDeviceId (.write address value)).rxReadBytes 3 = headerBytes h ∧
  h.functionCode &&& 0x80 = 0 ∧
  ((s.sendRequest s.cfgDeviceId (.write address value)).rxReadState 3).rxReadBytes 5 =
    [b3, b4, b5] ++ le16 (crc16 (headerBytes h ++ [b3, b4, b5]))

/-- The one request of a single-exchange operation of the host: RDREGS or WRREG (R175, R176). -/
def IsExchange (i : Instr) (r : Request) : Prop :=
  (∃ start count, i = .rdregs start count ∧ r = .read start count) ∨
  (∃ address value, i = .wrreg address value ∧ r = .write address value)

/-- The wire frame of a request to a device, closed with its own checksum (R91, R92, R140). -/
def requestInstr (d : Byte) (r : Request) : Instr :=
  match r with
  | .read start count => .reqRead d start count (requestCrc d r)
  | .write address value => .reqWrite d address value (requestCrc d r)

/-- Two engines that agree on all an operation may depend on: `CONNECTED`, the configuration registers and the environment
(R20), and the model's counter of the free values (log 5, log 9), both between operations. -/
def SameLasting (s t : State) : Prop :=
  s.connected = t.connected ∧ s.cfgDeviceId = t.cfgDeviceId ∧ s.cfgBaud = t.cfgBaud ∧ s.cfgTimeout = t.cfgTimeout ∧
  s.cfgSettle = t.cfgSettle ∧ s.env = t.env ∧ s.free = t.free ∧ s.phase = .idle ∧ t.phase = .idle

/-- Two outcomes that the host and the line cannot tell apart: the same refusal, or next states with the same `STATUS` and `RES`,
with `ProtocolException` the same `EXC_CODE` and `EXC_FC` (R171, R250), and the same lasting state. `RES` is compared after an
error too, where R26 and X9 let it be any value: the model makes it a function of the counter `free` (log 9). -/
def SameForHost (a b : Out) : Prop :=
  match a, b with
  | .next s, .next t => s.status = t.status ∧ s.res = t.res ∧
    (s.status = .protocolException → s.excCode = t.excCode ∧ s.excFc = t.excFc) ∧ SameLasting s t
  | .refused r, .refused q => r = q
  | .fault _, .fault _ => True
  | _, _ => False

end Sys2Proof.Machine
end

