-- ==== Sys2Proof/WellFormed.lean ====
section
/-! DEFINITION. Which instructions are well formed: the operand domains each operation's rule gives, and the field contents of each wire shape. -/

namespace Sys2Proof

open Sys2Proof.Machine

/-- The operands are in the domains of the instruction's rule; a wire shape has the contents its rule gives its fields.
A response's checksum field may hold anything: a wrong one is a response too (R255). -/
def Instr.wf : Instr → Bool
  | .crc16 _ => true
  | .verify _ => true
  | .bldrd d f _ _ => deviceIdOk d && functionCodeOk f
  | .bldwr d _ _ => deviceIdOk d
  | .parsehdr h => h.length ≤ 3
  | .words p => p.length % 2 == 0 && p.length ≤ 2 * wordFileCapacity
  | .connect => true
  | .disconnect => true
  | .rdregs _ _ => true
  | .wrreg _ _ => true
  | .rmlookup _ => true
  | .rmspan _ => true
  | .cvtscale _ k => scaleOk k
  | .cvttemp _ => true
  | .cvtflag _ => true
  | .cvtascii _ => true
  | .cvtver _ => true
  | .asmrt ws => ws.length == 11
  | .rdrt => true
  | .rdinfo => true
  | .setload _ => true
  | .getload => true
  | .reqRead d a n c => deviceIdOk d && c == requestCrc d (.read a n)
  | .reqWrite d a v c => deviceIdOk d && c == requestCrc d (.write a v)
  | .rspRead _ f data _ => !f.getLsbD 7 && data.length ≤ 255
  | .rspWrite _ f _ _ _ => !f.getLsbD 7
  | .rspExc _ f _ _ => f.getLsbD 7

end Sys2Proof
end

