-- ==== Sys2Proof/Certificates/Slice0/Obligations.lean ====
section
/-! DEFINITION. The statements for the provers, from the numbered rules of spec/. -/

open Sys2Proof Sys2Proof.Machine

/-! ### Unit U1 -/

/-- R131, R132: `ACC` and `RES` after CRC16 are the step of R131 folded over the bytes from 0xFFFF; nothing else but `STATUS` changes. -/
def Obligations.Crc16FoldsTableStep : Prop :=
  ∀ (m : List Byte) (s : State),
    (encode (.crc16 m)).head? = some 0x00 ∧
    exec (.crc16 m) s = .next { s with
      acc := m.foldl (fun acc b => (acc >>> 8) ^^^ crcTab.getD ((acc ^^^ b.setWidth 16) &&& 0xFF).toNat 0) 0xFFFF
      res := .word (m.foldl (fun acc b => (acc >>> 8) ^^^ crcTab.getD ((acc ^^^ b.setWidth 16) &&& 0xFF).toNat 0) 0xFFFF)
      status := .ok }

/-- R130, R136 (a), the latter an inference the spec marks as its own: the table has 256 entries, entry `i` the result of eight
shift-and-XOR rounds from `i`; and the table step is the bit-serial step. -/
def Obligations.CrcTableAndStepAreBitSerial : Prop :=
  crcTab.length = 256 ∧
  (∀ i : Byte, crcTab.getD i.toNat 0 =
    (fun c : Word => if c.getLsbD 0 then (c >>> 1) ^^^ 0xA001 else c >>> 1)^[8] (i.setWidth 16)) ∧
  ∀ (acc : Word) (b : Byte), crcStep acc b =
    (fun c : Word => if c.getLsbD 0 then (c >>> 1) ^^^ 0xA001 else c >>> 1)^[8] (acc ^^^ b.setWidth 16)

/-- R136 (b), an inference the spec marks as its own: CRC16 of a message with its checksum appended gives 0. -/
def Obligations.CrcOfClosedMessageIsZero : Prop :=
  ∀ (m : List Byte) (s t : State), exec (.crc16 m) s = .next t →
    ∃ u, exec (.crc16 (m ++ [lo8 t.acc, hi8 t.acc])) s = .next u ∧ u.res = .word 0

/-- R134: below three bytes VERIFY is false and computes nothing; from three bytes on it compares all 16 bits of the
checksum of the first `n-2` bytes with the last two, low byte first. What `ACC` then holds is left out (log 11). -/
def Obligations.VerifyComparesTrailingChecksum : Prop :=
  ∀ (buf : List Byte) (s : State),
    (encode (.verify buf)).head? = some 0x01 ∧
    (buf.length < 3 →
      exec (.verify buf) s = .next { s with verifyOk := false, res := .flag false, status := .ok }) ∧
    (∀ (msg : List Byte) (b0 b1 : Byte), msg ≠ [] → buf = msg ++ [b0, b1] →
      ∃ a, exec (.verify buf) s = .next { s with
        acc := a
        verifyOk := decide ((crc16 msg).toNat = b0.toNat + 256 * b1.toNat)
        res := .flag (decide ((crc16 msg).toNat = b0.toNat + 256 * b1.toNat))
        status := .ok })

/-- R135: a nonempty message with its checksum appended low byte first verifies; the empty one does not. -/
def Obligations.VerifyAcceptsOwnChecksum : Prop :=
  ∀ (m : List Byte) (s : State),
    ∃ t, exec (.verify (m ++ le16 (crc16 m))) s = .next t ∧
      t.res = .flag (decide (1 ≤ m.length)) ∧ t.verifyOk = decide (1 ≤ m.length)

/-! ### Unit U3, encoder -/

/-- R140: both builders give six message bytes and the checksum of those six, low byte first, in `TXBUF` and `RES`.
What `ACC` then holds is left out (log 11). -/
def Obligations.BuildersSerialiseRequests : Prop :=
  ∀ (d f : Byte) (x y : Word) (s : State), 1 ≤ d.toNat → d.toNat ≤ 247 →
    ∃ (a : Word) (v : Vector Byte 8),
      v.toList = [d, f, x.extractLsb' 8 8, x.extractLsb' 0 8, y.extractLsb' 8 8, y.extractLsb' 0 8,
        (crc16 (v.toList.take 6)).extractLsb' 0 8, (crc16 (v.toList.take 6)).extractLsb' 8 8] ∧
      ((f = 0x03 ∨ f = 0x06) →
        exec (.bldrd d f x y) s =
          .next { s with acc := a, txbuf := v, res := .frame v, status := .ok }) ∧
      (f = 0x06 →
        exec (.bldwr d x y) s =
          .next { s with acc := a, txbuf := v, res := .frame v, status := .ok })

/-- R144, which the spec marks as derived: BLDWR is BLDRD with function code 0x06, the frame does not depend on the state, and VERIFY accepts it. -/
def Obligations.BuiltFramesAreStatelessAndVerify : Prop :=
  ∀ (d f : Byte) (x y : Word) (s s' : State), 1 ≤ d.toNat → d.toNat ≤ 247 → (f = 0x03 ∨ f = 0x06) →
    exec (.bldwr d x y) s = exec (.bldrd d 0x06 x y) s ∧
    ∃ t t' v u, exec (.bldrd d f x y) s = .next t ∧ exec (.bldrd d f x y) s' = .next t' ∧
      t.res = .frame v ∧ t'.res = .frame v ∧
      exec (.verify v.toList) t = .next u ∧ u.res = .flag true

/-- R143: no result for a device id of 0 or 248 to 255, nor for another function code; RDREGS and WRREG are refused through them. -/
def Obligations.RequestDomainsAreRefused : Prop :=
  ∀ (d f : Byte) (x y : Word) (s : State),
    ((d = 0 ∨ 248 ≤ d.toNat) → exec (.bldrd d f x y) s = .refused .deviceIdDomain ∧
      exec (.bldwr d x y) s = .refused .deviceIdDomain) ∧
    (1 ≤ d.toNat → d.toNat ≤ 247 → f ≠ 0x03 → f ≠ 0x06 → exec (.bldrd d f x y) s = .refused .functionCodeDomain) ∧
    (s.connected = true → s.phase = .idle → (s.cfgDeviceId = 0 ∨ 248 ≤ s.cfgDeviceId.toNat) →
      exec (.rdregs x y) s = .refused .deviceIdDomain ∧ exec (.wrreg x y) s = .refused .deviceIdDomain)

/-! ### Unit U3, decoder -/

/-- R151: three bytes are latched and returned as they are; fewer raise `CommunicationTimeout`; more are refused. -/
def Obligations.ParsehdrSplitsHeader : Prop :=
  ∀ (h : List Byte) (s : State),
    (encode (.parsehdr h)).head? = some 0x04 ∧
    (∀ b0 b1 b2, h = [b0, b1, b2] →
      exec (.parsehdr h) s =
        .next { s with hdr := ⟨b0, b1, b2⟩, res := .header ⟨b0, b1, b2⟩, status := .ok }) ∧
    (h.length < 3 → ∃ v n, exec (.parsehdr h) s =
        .next { s with status := .communicationTimeout, res := v, free := n }) ∧
    (3 < h.length → exec (.parsehdr h) s = .refused .headerTooLong)

/-- R158: word `i` is byte `2i` times 256 plus byte `2i+1`, for every payload of an even length of at most 254 bytes. -/
def Obligations.WordsAreBigEndianPairs : Prop :=
  ∀ (p : List Byte) (n : Nat) (s : State), p.length = 2 * n → n ≤ 127 →
    (encode (.words p)).head? = some 0x05 ∧
    ∃ ws : List Word, ws.length = n ∧
      (∀ i, i < n → (ws.getD i 0).toNat = (p.getD (2 * i) 0).toNat * 256 + (p.getD (2 * i + 1) 0).toNat) ∧
      exec (.words p) s = .next { s with w := ws, wcnt := n, res := .words ws, status := .ok }

/-- R159: WORDS refuses an odd payload, and RDREGS refuses a validated response whose byte count is not twice the count.
That an even payload of more than 254 bytes runs, with a free word sequence of at most 127 words in `W` and `RES`, is the model's
choice (log 16). -/
def Obligations.PayloadLengthsOutsideDomain : Prop :=
  (∀ (p : List Byte) (s : State), p.length % 2 = 1 → exec (.words p) s = .refused .oddPayload) ∧
  (∀ (p : List Byte) (s : State), p.length % 2 = 0 → 254 < p.length →
    ∃ (ws : List Word) (n : Nat), ws.length ≤ 127 ∧
      exec (.words p) s = .next { s with w := ws, wcnt := ws.length, res := .words ws, status := .ok, free := n }) ∧
  (∀ (s : State) (start count : Word) (h : Header) (data : List Byte),
    s.ready = true → ReadAnswered s start count h data → data.length ≠ 2 * count.toNat →
    exec (.rdregs start count) s = .refused .payloadLength)

/-! ### Unit U4 -/

/-- R181: CONNECT opens at the configured rate and deadline or raises `ConnectionFailure`, as the environment decides; refused while connected. -/
def Obligations.ConnectFollowsEnvironment : Prop :=
  ∀ s : State,
    (encode .connect).head? = some 0x06 ∧
    (s.connected = true → exec .connect s = .refused .alreadyConnected) ∧
    (∀ more, s.connected = false → s.env.opens = true :: more →
      exec .connect s = .next { s with
        connected := true, status := .ok, res := .nothing
        env := { s.env with opens := more, link := some ⟨s.cfgBaud, s.cfgTimeout⟩ } }) ∧
    (∀ more, s.connected = false → s.env.opens = false :: more →
      ∃ v n, exec .connect s = .next { s with
        status := .connectionFailure, res := v, free := n, env := { s.env with opens := more } }) ∧
    (s.connected = false → s.env.opens = [] →
      (∃ n, exec .connect s = .next { s with
        connected := true, status := .ok, res := .nothing, free := n
        env := { s.env with link := some ⟨s.cfgBaud, s.cfgTimeout⟩ } }) ∨
      (∃ v n, exec .connect s = .next { s with status := .connectionFailure, res := v, free := n }))

/-- R182: DISCONNECT always ends OK with `CONNECTED` 0; bytes buffered in an open transport are lost with it; without one nothing else changes. -/
def Obligations.DisconnectAlwaysCloses : Prop :=
  ∀ s : State, s.phase = .idle →
    (encode .disconnect).head? = some 0x07 ∧
    (s.connected = true → exec .disconnect s = .next { s with
      connected := false, status := .ok, res := .nothing, env := { s.env with link := none, rxq := [] } }) ∧
    (s.connected = false → exec .disconnect s = .next { s with status := .ok, res := .nothing })

/-- R253: with `CONNECTED` 0 every transactional operation ends `NotConnected` and does nothing else (`RES` is any value, R261). -/
def Obligations.NotConnectedBeforeAnythingElse : Prop :=
  ∀ (i : Instr) (s : State), isTransactional i = true → s.connected = false →
    ∃ v n, exec i s = .next { s with status := .notConnected, res := v, free := n }

/-- R29, R104, R183: a pure operation neither reads nor writes `PHASE`, `CONNECTED` or the transport. -/
def Obligations.PureOperationsIgnoreTransport : Prop :=
  ∀ (i : Instr) (s : State) (c : Bool) (p : Phase) (e : Env), isPure i = true →
    exec i { s with connected := c, phase := p, env := e } =
      match exec i s with
      | .next t => .next { t with connected := c, phase := p, env := e }
      | .fault f => .fault f
      | .refused r => .refused r

/-- R91, R92, R171, R173, R174: a request frame is sent after the flush, through `TXBUF`, and the exchange waits in `Sent`
(a request frame as a transport event: log 3; its own device id, whatever `CFG_DEVICE_ID` is: log 29; `ACC`: log 11). -/
def Obligations.RequestFramesFlushAndSend : Prop :=
  ∀ (s : State) (d : Byte) (x y : Word), s.connected = true → s.phase = .idle → 1 ≤ d.toNat → d.toNat ≤ 247 →
    (∀ (c : Word) (v : Vector Byte 8), c = crc16 [d, 0x03, hi8 x, lo8 x, hi8 y, lo8 y] →
      v.toList = [d, 0x03, hi8 x, lo8 x, hi8 y, lo8 y, lo8 c, hi8 c] →
      exec (.reqRead d x y c) s = .next { s with
        acc := c, txbuf := v, request := .read x y, phase := .sent
        env := { s.env with rxq := [], tx := s.env.tx ++ v.toList } }) ∧
    (∀ (c : Word) (v : Vector Byte 8), c = crc16 [d, 0x06, hi8 x, lo8 x, hi8 y, lo8 y] →
      v.toList = [d, 0x06, hi8 x, lo8 x, hi8 y, lo8 y, lo8 c, hi8 c] →
      exec (.reqWrite d x y c) s = .next { s with
        acc := c, txbuf := v, request := .write x y, phase := .sent
        env := { s.env with rxq := [], tx := s.env.tx ++ v.toList } })

/-- R8, R178, R290, R91, R92, R143: what no request is sent for. While an exchange is in progress a transactional operation, a request
frame and DISCONNECT are refused (X6; log 12); a request frame is turned away without a transport (NotConnected, because the model
gives it the Idle row of R171, connection test included: log 3), for a device id outside
1 to 247 (log 29: it is the frame's id that counts), and for a checksum that is not its own (log 17), the last three in this order. -/
def Obligations.TurnedAwayRequests : Prop :=
  ∀ (s : State) (d : Byte) (x y c : Word),
    (∀ i, (isTransactional i = true ∨ i = .reqRead d x y c ∨ i = .reqWrite d x y c) →
      s.connected = true → s.phase ≠ .idle → exec i s = .refused .operationInProgress) ∧
    (s.phase ≠ .idle → exec .disconnect s = .refused .operationInProgress) ∧
    (∀ i, (i = .reqRead d x y c ∨ i = .reqWrite d x y c) → s.connected = false →
      ∃ v n, exec i s = .next { s with status := .notConnected, res := v, free := n }) ∧
    (∀ i, (i = .reqRead d x y c ∨ i = .reqWrite d x y c) → s.connected = true → s.phase = .idle →
      (d = 0 ∨ 248 ≤ d.toNat) → exec i s = .refused .deviceIdDomain) ∧
    (s.connected = true → s.phase = .idle → 1 ≤ d.toNat → d.toNat ≤ 247 →
      (c ≠ crc16 [d, 0x03, hi8 x, lo8 x, hi8 y, lo8 y] → exec (.reqRead d x y c) s = .refused .requestChecksum) ∧
      (c ≠ crc16 [d, 0x06, hi8 x, lo8 x, hi8 y, lo8 y] → exec (.reqWrite d x y c) s = .refused .requestChecksum))

/-- R71: `RxRead(n)` returns the head of what was buffered and what arrived, all `n` bytes if they are there, and removes it; the rest stays. -/
def Obligations.RxReadTakesHeadOfStream : Prop :=
  ∀ (n : Nat) (s : State),
    (s.rxReadBytes n).length ≤ n ∧
    s.rxReadBytes n ++ (s.rxReadState n).env.rxq = s.env.rxq ++ s.nextBurst ∧
    (n ≤ (s.env.rxq ++ s.nextBurst).length → (s.rxReadBytes n).length = n) ∧
    ((s.env.rxq ++ s.nextBurst).length < n → s.rxReadBytes n = s.env.rxq ++ s.nextBurst) ∧
    s.rxReadState n = { s with
      free := (s.rxReadState n).free
      env := { s.env with rxq := (s.rxReadState n).env.rxq, bursts := s.env.bursts.drop 1 } }

/-- R175: a read answered whole, with a right checksum and twice `count` data bytes, ends OK with the words in `W` and `RES` (`ACC`: log 11). -/
def Obligations.RdregsReturnsWords : Prop :=
  ∀ (s : State) (start count : Word) (h : Header) (ws : List Word),
    s.ready = true → ReadAnswered s start count h (wordsToBytes ws) → ws.length = count.toNat →
    exec (.rdregs start count) s = .next
      { (((s.sendRequest s.cfgDeviceId (.read start count)).rxReadState 3).rxReadState (2 * ws.length + 2)) with
        hdr := h
        rxbuf := headerBytes h ++ (wordsToBytes ws ++ le16 (crc16 (headerBytes h ++ wordsToBytes ws)))
        rxlen := 5 + 2 * ws.length
        acc := crc16 (headerBytes h ++ wordsToBytes ws)
        verifyOk := true
        w := ws, wcnt := ws.length, res := .words ws, status := .ok, phase := .idle }

/-- R176, R160: a write answered by eight bytes with a right checksum ends OK; the echo is compared with nothing and `W` is not written (`ACC`: log 11). -/
def Obligations.WrregAcceptsVerifiedEcho : Prop :=
  ∀ (s : State) (address value : Word) (h : Header) (b3 b4 b5 : Byte),
    s.ready = true → WriteAnswered s address value h b3 b4 b5 →
    exec (.wrreg address value) s = .next
      { (((s.sendRequest s.cfgDeviceId (.write address value)).rxReadState 3).rxReadState 5) with
        hdr := h
        rxbuf := headerBytes h ++ ([b3, b4, b5] ++ le16 (crc16 (headerBytes h ++ [b3, b4, b5])))
        rxlen := 8
        acc := crc16 (headerBytes h ++ [b3, b4, b5])
        verifyOk := true
        res := .nothing, status := .ok, phase := .idle }

/-- R152, R254, R259 (2): fewer than three header bytes end the exchange in `CommunicationTimeout`; nothing further is read and no buffer of the response is written. -/
def Obligations.ShortHeaderTimesOut : Prop :=
  ∀ (i : Instr) (r : Request) (s : State), IsExchange i r → s.ready = true →
    ((s.sendRequest s.cfgDeviceId r).rxReadBytes 3).length < 3 →
    ∃ v n, exec i s = .next { (s.sendRequest s.cfgDeviceId r).rxReadState 3 with
      status := .communicationTimeout, res := v, free := n, phase := .idle }

/-- R154, R256, R259 (3): bit 7 of the function code ends the exchange in `ProtocolException` after one read of two bytes, whatever arrives for it. -/
def Obligations.ExceptionResponseRaisesProtocolException : Prop :=
  ∀ (i : Instr) (r : Request) (s : State) (h : Header), IsExchange i r → s.ready = true →
    (s.sendRequest s.cfgDeviceId r).rxReadBytes 3 = headerBytes h → h.functionCode &&& 0x80 ≠ 0 →
    ∃ v n, exec i s = .next { ((s.sendRequest s.cfgDeviceId r).rxReadState 3).rxReadState 2 with
      hdr := h, excCode := h.third, excFc := h.functionCode
      status := .protocolException, res := v, free := n, phase := .idle }

/-- R155, R160, R254, R259 (4): a remainder shorter than `byte_count + 2` (read) or 5 (write) ends the exchange in `CommunicationTimeout`. -/
def Obligations.ShortRemainderTimesOut : Prop :=
  ∀ (i : Instr) (r : Request) (s : State) (h : Header) (n : Nat), IsExchange i r → s.ready = true →
    (s.sendRequest s.cfgDeviceId r).rxReadBytes 3 = headerBytes h → h.functionCode &&& 0x80 = 0 →
    n = (match r with
      | .read _ _ => h.third.toNat + 2
      | .write _ _ => 5) →
    (((s.sendRequest s.cfgDeviceId r).rxReadState 3).rxReadBytes n).length < n →
    ∃ v k, exec i s = .next { ((s.sendRequest s.cfgDeviceId r).rxReadState 3).rxReadState n with
      hdr := h, status := .communicationTimeout, res := v, free := k, phase := .idle }

/-- R156, R160, R255, R259 (5): a complete normal response with a wrong checksum ends the exchange in `CRCMismatch`, the frame in `RXBUF`, no word written (`ACC`: log 11). -/
def Obligations.WrongChecksumRaisesCrcMismatch : Prop :=
  ∀ (i : Instr) (r : Request) (s : State) (h : Header) (data : List Byte) (c0 c1 : Byte) (n : Nat),
    IsExchange i r → s.ready = true →
    (s.sendRequest s.cfgDeviceId r).rxReadBytes 3 = headerBytes h → h.functionCode &&& 0x80 = 0 →
    n = (match r with
      | .read _ _ => h.third.toNat + 2
      | .write _ _ => 5) →
    n = data.length + 2 →
    ((s.sendRequest s.cfgDeviceId r).rxReadState 3).rxReadBytes n = data ++ [c0, c1] →
    (crc16 (headerBytes h ++ data)).toNat ≠ c0.toNat + 256 * c1.toNat →
    ∃ v k, exec i s = .next { ((s.sendRequest s.cfgDeviceId r).rxReadState 3).rxReadState n with
      hdr := h, rxbuf := headerBytes h ++ (data ++ [c0, c1]), rxlen := 3 + n
      acc := crc16 (headerBytes h ++ data), verifyOk := false
      status := .crcMismatch, res := v, free := k, phase := .idle }

/-- R170, R171: every transition of `PHASE` is an edge of the table. -/
def Obligations.PhaseTakesTableEdges : Prop :=
  ∀ s t : State, phaseStep s = .next t →
    (s.phase, t.phase) ∈
      [(Phase.idle, Phase.idle), (.sent, .headerReceived), (.sent, .failed), (.headerReceived, .exceptionDetected),
       (.exceptionDetected, .failed), (.headerReceived, .payloadReceived), (.headerReceived, .failed),
       (.payloadReceived, .validated), (.payloadReceived, .failed), (.validated, .complete),
       (.complete, .idle), (.failed, .idle)]

/-- R172, R178, R300: an exchange that waits for its response ends, in `Idle`, unless the payload length gives it no result (R159). -/
def Obligations.ExchangeEndsInIdle : Prop :=
  ∀ s : State, s.phase = .sent →
    (∃ t, finishExchange s = .next t ∧ t.phase = .idle) ∨
      ((∃ start count, s.request = .read start count) ∧ finishExchange s = .refused .payloadLength)

/-- R45, R173: the flush makes a transactional operation independent of what was buffered before it. -/
def Obligations.StaleInputIsIrrelevant : Prop :=
  ∀ (i : Instr) (s : State) (q : List Byte), isTransactional i = true → s.connected = true →
    s.phase = .idle → deviceIdOk s.cfgDeviceId = true →
    exec i { s with env := { s.env with rxq := q } } = exec i s

/-- R177, R178: an exchange writes one request of eight bytes and no other; RDINFO writes its three requests in order (R232). -/
def Obligations.EachExchangeSendsOneRequest : Prop :=
  ∀ (i : Instr) (s t : State), s.ready = true → exec i s = .next t →
    (∀ r, (IsExchange i r ∨ (i = .rdrt ∧ r = .read 0x0100 11) ∨ (i = .getload ∧ r = .read 0x010A 1) ∨
        (i = .setload true ∧ r = .write 0x010A 1) ∨ (i = .setload false ∧ r = .write 0x010A 0)) →
      t.env.tx = s.env.tx ++ (requestFrame s.cfgDeviceId r).toList) ∧
    (i = .rdinfo → t.env.tx = s.env.tx ++ ((requestFrame s.cfgDeviceId (.read 0x000C 8)).toList ++
      ((requestFrame s.cfgDeviceId (.read 0x0018 8)).toList ++ (requestFrame s.cfgDeviceId (.read 0x0014 4)).toList)))

/-- R34, R36 to R39, R184, R261: no instruction changes a configuration register (nor the host's pending inputs), and only CONNECT and
DISCONNECT change `CONNECTED` or the open transport. -/
def Obligations.LastingRegistersMoveOnlyAsGiven : Prop :=
  ∀ (i : Instr) (s t : State), exec i s = .next t →
    t.cfgDeviceId = s.cfgDeviceId ∧ t.cfgBaud = s.cfgBaud ∧ t.cfgTimeout = s.cfgTimeout ∧ t.cfgSettle = s.cfgSettle ∧
      t.inputs = s.inputs ∧
      (i ≠ .connect → i ≠ .disconnect →
        t.connected = s.connected ∧ t.env.link = s.env.link ∧ t.env.opens = s.env.opens)

/-- R175, R176, R261: an operation that ends in an error writes no register word (RDINFO, which drops errors, apart), and a write
operation never does. -/
def Obligations.WordFileSurvivesErrorsAndWrites : Prop :=
  ∀ (i : Instr) (s t : State), exec i s = .next t →
    ((i ≠ .rdinfo ∧ t.status ≠ .ok) ∨ (∃ a v, i = .wrreg a v) ∨ (∃ on, i = .setload on)) →
    t.w = s.w ∧ t.wcnt = s.wcnt ∧ t.connected = s.connected

/-- R20, R171, R237, R250, R263: what an operation of the host does and answers (`STATUS`, `RES`, and `EXC_CODE`, `EXC_FC` with
`ProtocolException`) depends on `CONNECTED`, the configuration, the environment and the model's counter of the free values alone, and what it
leaves there does too: no register of an earlier operation matters. That `RES` is the same after an error too rests on the model's
choice that it is then a function of that counter (log 9; R26, R261, X9 let it be any value, and an engine that keeps its old `RES` on
an error conforms); so do the words of an overlong WORDS (log 16) and what the environment does past its scripts (log 5). -/
def Obligations.EarlierResultsDoNotMatter : Prop :=
  ∀ (i : Instr) (s t : State), i.port = .command → SameLasting s t → SameForHost (exec i s) (exec i t)

/-! ### Unit U2 -/

/-- R193, R194, R198, R199: RMLOOKUP answers with the map's entry at the index, for 0 to 14 the entry of the table (the unit label left open), and
refuses an index that is not in the map (the indexes of OPEN entries: log 30). -/
def Obligations.RmlookupReturnsMapEntry : Prop :=
  (∀ (s : State) (n : Nat) (name : EntryName) (g : Group) (a : Word) (len : Nat) (k : Option Nat) (signed : Bool) (kind : Kind),
    [(EntryName.model, Group.deviceInfo, (0x000C : Word), 8, none, false, Kind.asciiBlock),
     (.version, .deviceInfo, 0x0014, 4, none, false, .version),
     (.serialNumber, .deviceInfo, 0x0018, 8, none, false, .asciiBlock),
     (.stateOfCharge, .realTime, 0x0100, 1, some 0, false, .scaledUnsigned),
     (.batteryVoltage, .realTime, 0x0101, 1, some 1, false, .scaledUnsigned),
     (.chargingCurrent, .realTime, 0x0102, 1, some 2, false, .scaledUnsigned),
     (.temperature, .realTime, 0x0103, 1, some 0, true, .scaledSignedSplitByte),
     (.loadVoltage, .realTime, 0x0104, 1, some 1, false, .scaledUnsigned),
     (.loadCurrent, .realTime, 0x0105, 1, some 2, false, .scaledUnsigned),
     (.loadPower, .realTime, 0x0106, 1, some 0, false, .scaledUnsigned),
     (.solarVoltage, .realTime, 0x0107, 1, some 1, false, .scaledUnsigned),
     (.solarCurrent, .realTime, 0x0108, 1, some 2, false, .scaledUnsigned),
     (.solarPower, .realTime, 0x0109, 1, some 0, false, .scaledUnsigned),
     (.loadStatus, .realTime, 0x010A, 1, none, false, .booleanFlag),
     (.loadControl, .control, 0x010A, 1, none, false, .booleanFlag)][n]? = some (name, g, a, len, k, signed, kind) →
    ∃ u, exec (.rmlookup (BitVec.ofNat 16 n)) s =
      .next { s with res := .entry ⟨name, g, a, len, k, signed, kind, u⟩, status := .ok }) ∧
  ∀ (index : Word) (s : State),
    (encode (.rmlookup index)).head? = some 0x0A ∧
    (∀ e, indexTable[index.toNat]? = some e → exec (.rmlookup index) s = .next { s with res := .entry e, status := .ok }) ∧
    (indexTable.length ≤ index.toNat → exec (.rmlookup index) s = .refused .unknownEntry)

/-- R195: the span of a group runs from its least address to its greatest `address + length`, over all entries of the map in that
group, which for the three groups the source fills is (0x000C, 20), (0x0100, 11), (0x010A, 1); a group with no entries is refused. -/
def Obligations.RmspanCoversGroup : Prop :=
  ∀ (g : Group) (s : State),
    (encode (.rmspan g)).head? = some 0x0B ∧
    ((∀ e ∈ regMap, e.group ≠ g) → exec (.rmspan g) s = .refused .emptyGroup) ∧
    ((∃ e ∈ regMap, e.group = g) →
      ∃ (start : Word) (count : Nat),
        (∀ e ∈ regMap, e.group = g → start.toNat ≤ e.address.toNat ∧ e.address.toNat + e.length ≤ start.toNat + count) ∧
        (∃ e ∈ regMap, e.group = g ∧ e.address = start) ∧
        (∃ e ∈ regMap, e.group = g ∧ e.address.toNat + e.length = start.toNat + count) ∧
        exec (.rmspan g) s = .next { s with res := .span start count, status := .ok }) ∧
    exec (.rmspan .deviceInfo) s = .next { s with res := .span 0x000C 20, status := .ok } ∧
    exec (.rmspan .realTime) s = .next { s with res := .span 0x0100 11, status := .ok } ∧
    exec (.rmspan .control) s = .next { s with res := .span 0x010A 1, status := .ok }

/-- R190 to R192, R199: the map, OPEN entries included, is ordered by group and then by ascending address, a name occurs once,
entries of a group do not overlap, and each has a length of 1 to 127, a scale of R211 and the sign flag only where it is the packed
temperature kind (log 14); the index table holds the same entries (log 30). -/
def Obligations.RegmapIsOrderedWithoutOverlap : Prop :=
  regMap.Pairwise (fun e1 e2 =>
    ([Group.deviceInfo, .realTime, .dailyStats, .historicalStats, .control].idxOf e1.group ≤
      [Group.deviceInfo, .realTime, .dailyStats, .historicalStats, .control].idxOf e2.group) ∧
    (e1.group = e2.group →
      e1.address.toNat < e2.address.toNat ∧ e1.address.toNat + e1.length ≤ e2.address.toNat)) ∧
  (regMap.map (·.name)).Nodup ∧
  (∀ e ∈ regMap, 1 ≤ e.length ∧ e.length ≤ 127 ∧ (∀ k, e.scale = some k → k ≤ 2) ∧
    (e.signed = true → e.kind = .scaledSignedSplitByte)) ∧
  indexTable.Perm regMap

/-! ### Unit U5 -/

/-- R212: the raw word is the mantissa, unsigned and unchanged, the result stands for the number `raw / 10^k`, and two results are
equal exactly when they are equal as rationals; an exponent outside {0, 1, 2} is refused. -/
def Obligations.CvtscaleKeepsRawWord : Prop :=
  ∀ (raw : Word) (k : Byte) (s : State),
    (encode (.cvtscale raw k)).head? = some 0x0C ∧
    ((k = 0 ∨ k = 1 ∨ k = 2) →
      exec (.cvtscale raw k) s = .next { s with res := .decimal ⟨raw.toNat, k.toNat⟩, status := .ok } ∧
      decimalValue ⟨raw.toNat, k.toNat⟩ = (raw.toNat : ℚ) / 10 ^ k.toNat) ∧
    (∀ (raw' : Word) (k' : Byte), sameDecimal ⟨raw.toNat, k.toNat⟩ ⟨raw'.toNat, k'.toNat⟩ = true ↔
      (raw.toNat : ℚ) / 10 ^ k.toNat = (raw'.toNat : ℚ) / 10 ^ k'.toNat) ∧
    (3 ≤ k.toNat → exec (.cvtscale raw k) s = .refused .scaleDomain)

/-- R213: each byte of the packed word is an 8-bit two's-complement temperature, the high byte the controller's. -/
def Obligations.CvttempSignsEachByte : Prop :=
  ∀ (hi lo : Byte) (raw : Word) (s : State), raw.toNat = hi.toNat * 256 + lo.toNat →
    (encode (.cvttemp raw)).head? = some 0x0D ∧
    exec (.cvttemp raw) s = .next { s with
      res := .temperatures (if hi.toNat > 127 then (hi.toNat : Int) - 256 else hi.toNat)
        (if lo.toNat > 127 then (lo.toNat : Int) - 256 else lo.toNat)
      status := .ok }

/-- R214: on exactly for the raw word 1. -/
def Obligations.CvtflagIsOnForOneOnly : Prop :=
  ∀ (raw : Word) (s : State),
    (encode (.cvtflag raw)).head? = some 0x0E ∧
    exec (.cvtflag raw) s = .next { s with res := .flag (decide (raw.toNat = 1)), status := .ok }

/-- R215: the bytes of the words, high byte first, less those from 0x80 up, less the longest suffix of NUL and white space. -/
def Obligations.CvtasciiDropsInvalidThenTrims : Prop :=
  ∀ (ws : List Word) (s : State),
    (encode (.cvtascii ws)).head? = some 0x0F ∧
    ∃ kept cut : List Byte,
      (ws.flatMap (fun w => [w.extractLsb' 8 8, w.extractLsb' 0 8])).filter (fun b => b.toNat < 0x80) = kept ++ cut ∧
      (∀ b ∈ cut, b.toNat ∈ [0x00, 0x09, 0x0A, 0x0B, 0x0C, 0x0D, 0x20]) ∧
      (∀ b, kept.getLast? = some b → b.toNat ∉ [0x00, 0x09, 0x0A, 0x0B, 0x0C, 0x0D, 0x20]) ∧
      exec (.cvtascii ws) s =
        .next { s with res := .text (kept.map (fun b => Char.ofNat b.toNat)), status := .ok }

/-- R216: "V", the high byte in decimal, ".", the low byte in decimal; digits only, no leading zero. -/
def Obligations.CvtverPrintsMajorMinor : Prop :=
  ∀ (raw : Word) (s : State),
    (encode (.cvtver raw)).head? = some 0x10 ∧
    ∃ major minor : Text,
      exec (.cvtver raw) s = .next { s with res := .text (['V'] ++ major ++ ['.'] ++ minor), status := .ok } ∧
      major.foldl (fun n c => 10 * n + (c.toNat - 48)) 0 = raw.toNat / 256 ∧
      minor.foldl (fun n c => 10 * n + (c.toNat - 48)) 0 = raw.toNat % 256 ∧
      (∀ c ∈ major ++ minor, 48 ≤ c.toNat ∧ c.toNat ≤ 57) ∧ major ≠ [] ∧ minor ≠ [] ∧
      (major.head? = some '0' → major = ['0']) ∧ (minor.head? = some '0' → minor = ['0'])

/-- R218: the twelve fields of the 11-word block; any other length is refused. -/
def Obligations.AsmrtMapsElevenWords : Prop :=
  (∀ (w0 w1 w2 w3 w4 w5 w6 w7 w8 w9 w10 : Word) (s : State),
    (encode (.asmrt [w0, w1, w2, w3, w4, w5, w6, w7, w8, w9, w10])).head? = some 0x11 ∧
    exec (.asmrt [w0, w1, w2, w3, w4, w5, w6, w7, w8, w9, w10]) s = .next { s with
      res := .reading {
        stateOfCharge := ⟨w0.toNat, 0⟩
        batteryVoltage := ⟨w1.toNat, 1⟩
        chargingCurrent := ⟨w2.toNat, 2⟩
        controllerTemperature := sext8 (w3.extractLsb' 8 8)
        batteryTemperature := sext8 (w3.extractLsb' 0 8)
        loadVoltage := ⟨w4.toNat, 1⟩
        loadCurrent := ⟨w5.toNat, 2⟩
        loadPower := ⟨w6.toNat, 0⟩
        solarVoltage := ⟨w7.toNat, 1⟩
        solarCurrent := ⟨w8.toNat, 2⟩
        solarPower := ⟨w9.toNat, 0⟩
        isOn := decide (w10.toNat = 1) }
      status := .ok }) ∧
  (∀ (ws : List Word) (s : State), ws.length ≠ 11 → exec (.asmrt ws) s = .refused .blockLength)

/-! ### Composite operations -/

/-- R231: a real-time block that is answered whole is assembled; all else is what RDREGS of (0x0100, 11) leaves. -/
def Obligations.RdrtAssemblesRealTimeBlock : Prop :=
  ∀ (s : State) (h : Header) (ws : List Word),
    s.ready = true → ReadAnswered s 0x0100 11 h (wordsToBytes ws) → ws.length = 11 →
    ∃ u t v, exec (.rdregs 0x0100 11) s = .next u ∧ u.w = ws ∧ exec (.asmrt ws) u = .next v ∧
      exec .rdrt s = .next t ∧ t = { u with res := v.res } ∧ t.status = .ok

/-- R234: GETLOAD reads the one word at 0x010A and is true exactly for 1; all else is what RDREGS leaves. -/
def Obligations.GetloadTestsLoadWord : Prop :=
  ∀ (s : State) (h : Header) (raw : Word),
    s.ready = true → ReadAnswered s 0x010A 1 h (be16 raw) →
    ∃ u, exec (.rdregs 0x010A 1) s = .next u ∧
      exec .getload s = .next { u with res := .flag (decide (raw.toNat = 1)) } ∧ u.status = .ok

/-- R233: SETLOAD is WRREG of 1 or 0 to 0x010A, and ends OK, with nothing returned, on a verified echo. -/
def Obligations.SetloadWritesLoadRegister : Prop :=
  ∀ (s : State) (on : Bool),
    (encode (.setload on)).head? = some 0x14 ∧
    exec (.setload on) s = exec (.wrreg 0x010A (if on then 1 else 0)) s ∧
    ∀ (h : Header) (b3 b4 b5 : Byte), s.ready = true →
      WriteAnswered s 0x010A (if on then 1 else 0) h b3 b4 b5 →
      ∃ t, exec (.setload on) s = .next t ∧ t.status = .ok ∧ t.res = .nothing ∧ t.w = s.w

/-- R236: RDRT, GETLOAD and SETLOAD hand on an error, or a refusal, of the exchange inside them as it stands. -/
def Obligations.CompositesHandOnErrors : Prop :=
  ∀ s : State,
    (∀ u, exec (.rdregs 0x0100 11) s = .next u → u.status ≠ .ok → exec .rdrt s = .next u) ∧
    (∀ r, exec (.rdregs 0x0100 11) s = .refused r → exec .rdrt s = .refused r) ∧
    (∀ u, exec (.rdregs 0x010A 1) s = .next u → u.status ≠ .ok → exec .getload s = .next u) ∧
    (∀ r, exec (.rdregs 0x010A 1) s = .refused r → exec .getload s = .refused r) ∧
    ∀ (on : Bool) (u : State), exec (.wrreg 0x010A (if on then 1 else 0)) s = .next u → u.status ≠ .ok →
      exec (.setload on) s = .next u

/-- R232, R235: RDINFO is three reads in the order model, serial number, version; an error of one leaves its fields empty; it ends OK.
`EXC_CODE` and `EXC_FC` are said only where no attempt failed. A refusal of any attempt is not dropped: RDINFO is refused with it. -/
def Obligations.RdinfoAttemptsThreeBlocks : Prop :=
  (∀ (s : State) (r : Refusal), s.connected = true →
    (exec (.rdregs 0x000C 8) s = .refused r → exec .rdinfo s = .refused r) ∧
    ∀ u1, exec (.rdregs 0x000C 8) s = .next u1 →
      (exec (.rdregs 0x0018 8) u1 = .refused r → exec .rdinfo s = .refused r) ∧
      ∀ u2, exec (.rdregs 0x0018 8) u1 = .next u2 →
        exec (.rdregs 0x0014 4) u2 = .refused r → exec .rdinfo s = .refused r) ∧
  ∀ s u1 u2 u3 : State, s.connected = true →
    exec (.rdregs 0x000C 8) s = .next u1 → exec (.rdregs 0x0018 8) u1 = .next u2 →
    exec (.rdregs 0x0014 4) u2 = .next u3 →
    ∃ t d, exec .rdinfo s = .next t ∧
      t = { u3 with status := .ok, res := .info d, excCode := t.excCode, excFc := t.excFc, free := t.free } ∧
      d.model = (if u1.status = .ok then cvtAscii u1.w else []) ∧
      d.serialNumber = (if u2.status = .ok then cvtAscii u2.w else []) ∧
      d.hardwareVersion = (if u3.status = .ok then cvtVer (u3.w.getD Config.hwVerWord.val 0) else []) ∧
      d.softwareVersion = (if u3.status = .ok then cvtVer (u3.w.getD Config.swVerWord.val 0) else []) ∧
      (u1.status = .ok → u2.status = .ok → u3.status = .ok → t.excCode = u3.excCode ∧ t.excFc = u3.excFc)

/-- R232: on a ready engine RDINFO completes whatever each of the three header reads brings short of a full header: four empty strings, status OK. -/
def Obligations.RdinfoCompletesWithoutAnswers : Prop :=
  ∀ (s : State) (b1 b2 b3 : List Byte) (more : List (List Byte)), s.ready = true →
    s.env.bursts = b1 :: b2 :: b3 :: more → b1.length < 3 → b2.length < 3 → b3.length < 3 →
    ∃ t, exec .rdinfo s = .next t ∧ t.status = .ok ∧ t.res = .info ⟨[], [], [], []⟩ ∧ t.phase = .idle ∧
      t.w = s.w ∧ t.wcnt = s.wcnt ∧ t.env.bursts = more

/-- R232: on a ready engine whose environment delivers the three blocks whole, RDINFO completes with the decoded fields. -/
def Obligations.RdinfoDecodesThreeBlocks : Prop :=
  ∀ (s : State) (d f : Byte) (m v n : List Word) (more : List (List Byte)), s.ready = true →
    f &&& 0x80 = 0 → m.length = 8 → n.length = 8 → v.length = 4 →
    s.env.bursts =
      [d, f, 16] :: (wordsToBytes m ++ le16 (crc16 ([d, f, 16] ++ wordsToBytes m))) ::
      [d, f, 16] :: (wordsToBytes n ++ le16 (crc16 ([d, f, 16] ++ wordsToBytes n))) ::
      [d, f, 8] :: (wordsToBytes v ++ le16 (crc16 ([d, f, 8] ++ wordsToBytes v))) :: more →
    ∃ t, exec .rdinfo s = .next t ∧ t.status = .ok ∧ t.w = v ∧ t.wcnt = 4 ∧ t.phase = .idle ∧
      t.res = .info ⟨cvtAscii m, cvtAscii n, cvtVer (v.getD Config.hwVerWord.val 0),
        cvtVer (v.getD Config.swVerWord.val 0)⟩ ∧
      t.excCode = s.excCode ∧ t.excFc = s.excFc

/-! ### Wire events -/

/-- R93, R155 to R158: RSP.READ received by a waiting read exchange, checksum right and twice `count` data bytes, ends it OK with the words
(a frame as an arrival: log 3; `ACC`: log 11). -/
def Obligations.ReadResponseFrameCompletesExchange : Prop :=
  ∀ (s : State) (start : Word) (d f : Byte) (ws : List Word), s.connected = true → s.phase = .sent → s.env.rxq = [] →
    ws.length ≤ 127 → s.request = .read start (BitVec.ofNat 16 ws.length) → f &&& 0x80 = 0 →
    let bc : Byte := BitVec.ofNat 8 (2 * ws.length)
    let c := crc16 ([d, f, bc] ++ wordsToBytes ws)
    ∃ t, exec (.rspRead d f (wordsToBytes ws) c) s = .next t ∧
      t = { s with
        hdr := ⟨d, f, bc⟩, rxbuf := [d, f, bc] ++ (wordsToBytes ws ++ le16 c), rxlen := 5 + 2 * ws.length
        acc := c, verifyOk := true, w := ws, wcnt := ws.length, res := .words ws, status := .ok, phase := .idle
        free := t.free, env := { s.env with rxq := t.env.rxq, bursts := t.env.bursts } }

/-- R94, R160: RSP.WRITE received by a waiting write exchange with a right checksum ends it OK, whatever it echoes
(a frame as an arrival: log 3; `ACC`: log 11). -/
def Obligations.WriteResponseFrameCompletesExchange : Prop :=
  ∀ (s : State) (d f : Byte) (a v a' v' : Word), s.connected = true → s.phase = .sent → s.env.rxq = [] →
    s.request = .write a v → f &&& 0x80 = 0 →
    let c := crc16 [d, f, hi8 a', lo8 a', hi8 v', lo8 v']
    ∃ t, exec (.rspWrite d f a' v' c) s = .next t ∧
      t = { s with
        hdr := ⟨d, f, hi8 a'⟩, rxbuf := [d, f, hi8 a', lo8 a', hi8 v', lo8 v', lo8 c, hi8 c], rxlen := 8
        acc := c, verifyOk := true, res := .nothing, status := .ok, phase := .idle
        free := t.free, env := { s.env with rxq := t.env.rxq, bursts := t.env.bursts } }

/-- R95, R153, R154: RSP.EXC received by a waiting exchange of either kind raises `ProtocolException`, whatever its checksum bytes
(a frame as an arrival: log 3). -/
def Obligations.ExceptionFrameEndsExchange : Prop :=
  ∀ (s : State) (d f code : Byte) (c : Word), s.connected = true → s.phase = .sent → s.env.rxq = [] →
    f &&& 0x80 ≠ 0 →
    ∃ t v, exec (.rspExc d f code c) s = .next t ∧
      t = { s with
        hdr := ⟨d, f, code⟩, excCode := code, excFc := f, res := v, status := .protocolException, phase := .idle
        free := t.free, env := { s.env with rxq := t.env.rxq, bursts := t.env.bursts } }

/-- R258, R265: a response frame that no exchange waits for stays buffered at the end of the input stream and changes nothing else.
That it is lost where no transport is open is the model's choice (log 13). -/
def Obligations.UnaskedFramesStayBuffered : Prop :=
  ∀ (i : Instr) (s : State), (i.port = .readResponse ∨ i.port = .writeResponse) →
    (s.connected = true → s.phase = .idle →
      exec i s = .next { s with env := { s.env with rxq := s.env.rxq ++ encode i } }) ∧
    (s.connected = false → exec i s = .next s)

/-- R7, R171, R175, R176: RDREGS and WRREG are their two wire events: the request frame with `CFG_DEVICE_ID`, and the response whose
bytes are the first to arrive, of whichever shape and with whatever contents, a wrong checksum or the other shape included
(the script of log 5 names what arrives at the header read, and log 3 makes frames events). -/
def Obligations.ExchangeIsRequestThenResponse : Prop :=
  ∀ (x : Instr) (r : Request) (s : State) (i : Instr) (b : List Byte) (more : List (List Byte)),
    IsExchange x r → s.ready = true → s.env.bursts = b :: more → (i.port = .readResponse ∨ i.port = .writeResponse) →
    exec x { s with env := { s.env with bursts := (encode i ++ b) :: more } } =
      match exec (requestInstr s.cfgDeviceId r) s with
      | .next t => exec i t
      | .fault f => .fault f
      | .refused q => .refused q

/-! ### Errors, reset, step, encoding -/

/-- R251, R257: the text of every exception code. -/
def Obligations.ExceptionCodesHaveTexts : Prop :=
  ∀ code : Byte,
    (∀ m : String, (code.toNat, m) ∈ [(0x01, "Illegal Function"), (0x02, "Illegal Data Address"), (0x03, "Illegal Data Value"),
        (0x04, "Slave Device Failure"), (0x05, "Acknowledge"), (0x06, "Slave Device Busy"), (0x08, "Memory Parity Error"),
        (0x0A, "Gateway Path Unavailable"), (0x0B, "Gateway Target Failed to Respond")] →
      exceptionMessage code = m.toList) ∧
    (code.toNat ∉ [0x01, 0x02, 0x03, 0x04, 0x05, 0x06, 0x08, 0x0A, 0x0B] →
      ∃ h l : Char, exceptionMessage code = "Unknown Exception (0x".toList ++ [h, l] ++ ")".toList ∧
        "0123456789ABCDEF".toList[code.toNat / 16]? = some h ∧ "0123456789ABCDEF".toList[code.toNat % 16]? = some l)

/-- R47, R280: the reset values the spec gives, and a fresh engine waits for the host. -/
def Obligations.ResetStateAsSpecified : Prop :=
  State.reset.phase = .idle ∧ State.reset.connected = false ∧ State.reset.status = .ok ∧ State.reset.verifyOk = false ∧
  State.reset.wcnt = 0 ∧ State.reset.rxlen = 0 ∧ State.reset.cfgBaud = 9600 ∧
  (State.reset.cfgTimeout.m : ℚ) / 10 ^ State.reset.cfgTimeout.k = 1 ∧ State.reset.cfgSettle = Config.settle ∧
  step State.reset = .next State.reset

/-- R7: when the oldest input's bytes decode to an instruction, a step takes the input and is exec of that instruction
(inputs as a list: log 1). -/
def Obligations.StepExecutesDecodedInput : Prop :=
  ∀ (s : State) (p : Port) (bs : List Byte) (rest : List Input) (i : Instr),
    s.inputs = .bytes p bs :: rest → decode p bs = .ok i → step s = exec i { s with inputs := rest }

/-- R36 to R39, R105, R258, R280: what a step does without an instruction: wait, write the configuration register the host names,
refuse a reserved select code, let loose bytes arrive (the presentation is the model's: log 1, log 4, log 19; that a step with no
input also leaves an exchange in `Sent` waiting: log 31). -/
def Obligations.StepWithoutInstruction : Prop :=
  ∀ (s : State) (rest : List Input),
    (s.inputs = [] → step s = .next s) ∧
    (∀ v, s.inputs = .configure (.deviceId v) :: rest → step s = .next { s with inputs := rest, cfgDeviceId := v }) ∧
    (∀ v, s.inputs = .configure (.baud v) :: rest → step s = .next { s with inputs := rest, cfgBaud := v }) ∧
    (∀ v, s.inputs = .configure (.timeout v) :: rest → step s = .next { s with inputs := rest, cfgTimeout := v }) ∧
    (∀ v, s.inputs = .configure (.settle v) :: rest → step s = .next { s with inputs := rest, cfgSettle := v }) ∧
    (∀ (op : Byte) (t : List Byte), s.inputs = .bytes .command (op :: t) :: rest → 0x16 ≤ op.toNat → op.toNat ≤ 0x1F →
      step s = .refused .notAnInstruction) ∧
    (∀ bs, s.inputs = .bytes .readResponse bs :: rest → bs.length < 3 → s.connected = true → s.phase = .idle →
      step s = .next { s with inputs := rest, env := { s.env with rxq := s.env.rxq ++ bs } })

/-- R47: the invariant holds of a fresh engine. That nothing is buffered in its input stream is the model's choice (log 13), and that
its `RXBUF` and `W` hold no entry is the model's reading of the counts R47 gives (log 26). -/
def Obligations.ResetMeetsInvariant : Prop := State.reset.Inv

/-- R24, R25, R29, R34, R74, R182: every step keeps the invariant, from every state that meets it. Three clauses rest on the model's
choices: that nothing is buffered without a transport, on the loss of bytes that arrive at a closed one (log 13); that `WCNT` is at
most 127, after a WORDS of more than 127 words, on the cut of its free words (log 16); that an exchange may wait in `Sent` between
steps, on request frames as events (log 3). -/
def Obligations.StepKeepsInvariant : Prop :=
  ∀ s t : State, s.Inv → step s = .next t → t.Inv

/-- R90 to R99, R103, R104: decoding the bytes of a well-formed instruction, at its port, gives the instruction back. -/
def Obligations.DecodeInvertsEncode : Prop :=
  ∀ i : Instr, i.wf = true → decode i.port (encode i) = .ok i

/-- R91 to R95, R104: words written out from the encodings decode to the instructions they stand for. -/
def Obligations.WrittenWordsDecode : Prop :=
  decode .command [0x02, 0x01, 0x03, 0x01, 0x00, 0x00, 0x0B] = .ok (.bldrd 0x01 0x03 0x0100 11) ∧
  decode .command [0x09, 0x01, 0x0A, 0x00, 0x01] = .ok (.wrreg 0x010A 1) ∧
  decode .request [0x01, 0x03, 0x01, 0x00, 0x00, 0x0B, 0x05, 0xF1] = .ok (.reqRead 0x01 0x0100 11 0xF105) ∧
  decode .request [0x01, 0x06, 0x01, 0x0A, 0x00, 0x01, 0x69, 0xF4] = .ok (.reqWrite 0x01 0x010A 1 0xF469) ∧
  decode .readResponse [0x01, 0x03, 0x02, 0x00, 0x01, 0x79, 0x84] = .ok (.rspRead 0x01 0x03 [0x00, 0x01] 0x8479) ∧
  decode .writeResponse [0x01, 0x06, 0x01, 0x0A, 0x00, 0x01, 0x69, 0xF4] = .ok (.rspWrite 0x01 0x06 0x010A 1 0xF469) ∧
  decode .readResponse [0x01, 0x83, 0x02, 0xC0, 0xF1] = .ok (.rspExc 0x01 0x83 0x02 0xF1C0)
end

