-- ==== Sys2Proof/Laws/Bytes.lean ====
section
/-! SUPPORT. Byte orders and word sequences: each conversion undoes the other (R61, R62, R63). -/

namespace Sys2Proof.Machine

theorem fromBe16_toNat (a b : Byte) : (fromBe16 a b).toNat = a.toNat * 256 + b.toNat := by
  unfold fromBe16
  rw [BitVec.toNat_append, ← Nat.shiftLeft_add_eq_or_of_lt (by omega), Nat.shiftLeft_eq]

theorem fromLe16_toNat (a b : Byte) : (fromLe16 a b).toNat = a.toNat + 256 * b.toNat := by
  have h : (fromLe16 a b).toNat = b.toNat * 256 + a.toNat := fromBe16_toNat b a
  omega

theorem hi8_toNat (w : Word) : (hi8 w).toNat = w.toNat / 256 := by
  have := w.isLt
  simp only [hi8, BitVec.extractLsb'_toNat, Nat.shiftRight_eq_div_pow]
  omega

theorem lo8_toNat (w : Word) : (lo8 w).toNat = w.toNat % 256 := by
  simp [lo8, BitVec.extractLsb'_toNat]

@[simp] theorem fromBe16_be16 (w : Word) : fromBe16 (hi8 w) (lo8 w) = w := by
  apply BitVec.eq_of_toNat_eq
  rw [fromBe16_toNat, hi8_toNat, lo8_toNat]
  omega

@[simp] theorem fromLe16_le16 (w : Word) : fromLe16 (lo8 w) (hi8 w) = w := fromBe16_be16 w

@[simp] theorem hi8_fromBe16 (a b : Byte) : hi8 (fromBe16 a b) = a := by
  apply BitVec.eq_of_toNat_eq
  rw [hi8_toNat, fromBe16_toNat]
  omega

@[simp] theorem lo8_fromBe16 (a b : Byte) : lo8 (fromBe16 a b) = b := by
  apply BitVec.eq_of_toNat_eq
  rw [lo8_toNat, fromBe16_toNat]
  omega

@[simp] theorem wordsToBytes_nil : wordsToBytes [] = [] := rfl

@[simp] theorem wordsToBytes_cons (w : Word) (ws : List Word) :
    wordsToBytes (w :: ws) = hi8 w :: lo8 w :: wordsToBytes ws := rfl

@[simp] theorem length_wordsToBytes (ws : List Word) : (wordsToBytes ws).length = 2 * ws.length := by
  induction ws with
  | nil => rfl
  | cons w ws ih => simp [ih]; omega

@[simp] theorem bytesToWords_wordsToBytes (ws : List Word) : bytesToWords (wordsToBytes ws) = some ws := by
  induction ws with
  | nil => rfl
  | cons w ws ih => simp [bytesToWords, ih]

/-- Word decoding gives words exactly for payloads that are the bytes of those words. -/
theorem bytesToWords_eq_some (p : List Byte) (ws : List Word) :
    bytesToWords p = some ws ↔ p = wordsToBytes ws := by
  constructor
  · induction p using bytesToWords.induct generalizing ws with
    | case1 => intro h; simp [bytesToWords] at h; simp [h]
    | case2 _ => intro h; simp [bytesToWords] at h
    | case3 a b rest ih =>
      intro h
      simp only [bytesToWords, Option.map_eq_some_iff] at h
      obtain ⟨vs, hv, rfl⟩ := h
      simp [← ih vs hv]
  · rintro rfl; exact bytesToWords_wordsToBytes ws

/-- An odd payload has no words (R159). -/
theorem bytesToWords_of_odd (p : List Byte) (h : p.length % 2 = 1) : bytesToWords p = none := by
  rcases hb : bytesToWords p with _ | ws
  · rfl
  · rw [(bytesToWords_eq_some p ws).mp hb, length_wordsToBytes] at h; omega

/-- An even payload is the bytes of some words (R158). -/
theorem exists_words_of_even (p : List Byte) (h : p.length % 2 = 0) : ∃ ws, p = wordsToBytes ws := by
  induction p using bytesToWords.induct with
  | case1 => exact ⟨[], rfl⟩
  | case2 _ => simp at h
  | case3 a b rest ih =>
    obtain ⟨ws, rfl⟩ := ih (by simp only [List.length_cons] at h; omega)
    exact ⟨fromBe16 a b :: ws, by simp⟩

@[simp] theorem length_headerBytes (h : Header) : (headerBytes h).length = 3 := rfl

@[simp] theorem headerOf_headerBytes (h : Header) : headerOf (headerBytes h) = some h := rfl

/-- A header read yields a header exactly when three bytes came. -/
theorem headerOf_eq_some (l : List Byte) (h : Header) : headerOf l = some h ↔ l = headerBytes h := by
  constructor
  · intro hl
    match l, hl with
    | [a, b, c], hl => simp [headerOf] at hl; simp [← hl, headerBytes]
  · rintro rfl; rfl

theorem headerOf_eq_none (l : List Byte) (h : l.length < 3) : headerOf l = none := by
  rcases hl : headerOf l with _ | hd
  · rfl
  · rw [(headerOf_eq_some l hd).mp hl] at h; simp at h

/-- Bit 7 tested alone is the mask 0x80 of R153. -/
theorem getLsbD_seven_iff (f : Byte) : f.getLsbD 7 = true ↔ f &&& 0x80 ≠ 0 := by
  revert f; decide

end Sys2Proof.Machine
end

