-- ==== Sys2Proof/Laws/Converter.lean ====
section
/-! SUPPORT. Scaled values: the comparison of results is equality of the rationals they stand for. -/

namespace Sys2Proof.Machine

/-- Comparing scaled results is comparing rationals (R212). -/
theorem sameDecimal_iff_value_eq (a b : Decimal) : sameDecimal a b = true ↔ decimalValue a = decimalValue b := by
  unfold sameDecimal decimalValue
  rw [beq_iff_eq, div_eq_div_iff (by positivity) (by positivity)]
  exact_mod_cast Iff.rfl

end Sys2Proof.Machine
end

