-- ==== Sys2Proof/Laws/State.lean ====
section
/-! SUPPORT. One lemma per field per update of the state: what each shared update leaves in every register. -/

namespace Sys2Proof.Machine

/-! ### finish -/

@[simp] theorem State.finish_acc (r : Result) (s : State) : (s.finish r).acc = s.acc := rfl
@[simp] theorem State.finish_txbuf (r : Result) (s : State) : (s.finish r).txbuf = s.txbuf := rfl
@[simp] theorem State.finish_hdr (r : Result) (s : State) : (s.finish r).hdr = s.hdr := rfl
@[simp] theorem State.finish_rxbuf (r : Result) (s : State) : (s.finish r).rxbuf = s.rxbuf := rfl
@[simp] theorem State.finish_rxlen (r : Result) (s : State) : (s.finish r).rxlen = s.rxlen := rfl
@[simp] theorem State.finish_w (r : Result) (s : State) : (s.finish r).w = s.w := rfl
@[simp] theorem State.finish_wcnt (r : Result) (s : State) : (s.finish r).wcnt = s.wcnt := rfl
@[simp] theorem State.finish_res (r : Result) (s : State) : (s.finish r).res = r := rfl
@[simp] theorem State.finish_phase (r : Result) (s : State) : (s.finish r).phase = s.phase := rfl
@[simp] theorem State.finish_request (r : Result) (s : State) : (s.finish r).request = s.request := rfl
@[simp] theorem State.finish_status (r : Result) (s : State) : (s.finish r).status = .ok := rfl
@[simp] theorem State.finish_verifyOk (r : Result) (s : State) : (s.finish r).verifyOk = s.verifyOk := rfl
@[simp] theorem State.finish_excCode (r : Result) (s : State) : (s.finish r).excCode = s.excCode := rfl
@[simp] theorem State.finish_excFc (r : Result) (s : State) : (s.finish r).excFc = s.excFc := rfl
@[simp] theorem State.finish_connected (r : Result) (s : State) : (s.finish r).connected = s.connected := rfl
@[simp] theorem State.finish_cfgDeviceId (r : Result) (s : State) : (s.finish r).cfgDeviceId = s.cfgDeviceId := rfl
@[simp] theorem State.finish_cfgBaud (r : Result) (s : State) : (s.finish r).cfgBaud = s.cfgBaud := rfl
@[simp] theorem State.finish_cfgTimeout (r : Result) (s : State) : (s.finish r).cfgTimeout = s.cfgTimeout := rfl
@[simp] theorem State.finish_cfgSettle (r : Result) (s : State) : (s.finish r).cfgSettle = s.cfgSettle := rfl
@[simp] theorem State.finish_env (r : Result) (s : State) : (s.finish r).env = s.env := rfl
@[simp] theorem State.finish_inputs (r : Result) (s : State) : (s.finish r).inputs = s.inputs := rfl
@[simp] theorem State.finish_free (r : Result) (s : State) : (s.finish r).free = s.free := rfl

/-! ### withChecksum -/

@[simp] theorem State.withChecksum_acc (m : List Byte) (s : State) : (s.withChecksum m).acc = crc16 m := rfl
@[simp] theorem State.withChecksum_txbuf (m : List Byte) (s : State) : (s.withChecksum m).txbuf = s.txbuf := rfl
@[simp] theorem State.withChecksum_hdr (m : List Byte) (s : State) : (s.withChecksum m).hdr = s.hdr := rfl
@[simp] theorem State.withChecksum_rxbuf (m : List Byte) (s : State) : (s.withChecksum m).rxbuf = s.rxbuf := rfl
@[simp] theorem State.withChecksum_rxlen (m : List Byte) (s : State) : (s.withChecksum m).rxlen = s.rxlen := rfl
@[simp] theorem State.withChecksum_w (m : List Byte) (s : State) : (s.withChecksum m).w = s.w := rfl
@[simp] theorem State.withChecksum_wcnt (m : List Byte) (s : State) : (s.withChecksum m).wcnt = s.wcnt := rfl
@[simp] theorem State.withChecksum_res (m : List Byte) (s : State) : (s.withChecksum m).res = s.res := rfl
@[simp] theorem State.withChecksum_phase (m : List Byte) (s : State) : (s.withChecksum m).phase = s.phase := rfl
@[simp] theorem State.withChecksum_request (m : List Byte) (s : State) : (s.withChecksum m).request = s.request := rfl
@[simp] theorem State.withChecksum_status (m : List Byte) (s : State) : (s.withChecksum m).status = s.status := rfl
@[simp] theorem State.withChecksum_verifyOk (m : List Byte) (s : State) : (s.withChecksum m).verifyOk = s.verifyOk := rfl
@[simp] theorem State.withChecksum_excCode (m : List Byte) (s : State) : (s.withChecksum m).excCode = s.excCode := rfl
@[simp] theorem State.withChecksum_excFc (m : List Byte) (s : State) : (s.withChecksum m).excFc = s.excFc := rfl
@[simp] theorem State.withChecksum_connected (m : List Byte) (s : State) : (s.withChecksum m).connected = s.connected := rfl
@[simp] theorem State.withChecksum_cfgDeviceId (m : List Byte) (s : State) : (s.withChecksum m).cfgDeviceId = s.cfgDeviceId := rfl
@[simp] theorem State.withChecksum_cfgBaud (m : List Byte) (s : State) : (s.withChecksum m).cfgBaud = s.cfgBaud := rfl
@[simp] theorem State.withChecksum_cfgTimeout (m : List Byte) (s : State) : (s.withChecksum m).cfgTimeout = s.cfgTimeout := rfl
@[simp] theorem State.withChecksum_cfgSettle (m : List Byte) (s : State) : (s.withChecksum m).cfgSettle = s.cfgSettle := rfl
@[simp] theorem State.withChecksum_env (m : List Byte) (s : State) : (s.withChecksum m).env = s.env := rfl
@[simp] theorem State.withChecksum_inputs (m : List Byte) (s : State) : (s.withChecksum m).inputs = s.inputs := rfl
@[simp] theorem State.withChecksum_free (m : List Byte) (s : State) : (s.withChecksum m).free = s.free := rfl

/-! ### buildFrame -/

@[simp] theorem State.buildFrame_acc (d f : Byte) (x y : Word) (s : State) : (s.buildFrame d f x y).acc = crc16 (frame6 d f x y) := rfl
@[simp] theorem State.buildFrame_txbuf (d f : Byte) (x y : Word) (s : State) : (s.buildFrame d f x y).txbuf = frame8 d f x y := rfl
@[simp] theorem State.buildFrame_hdr (d f : Byte) (x y : Word) (s : State) : (s.buildFrame d f x y).hdr = s.hdr := rfl
@[simp] theorem State.buildFrame_rxbuf (d f : Byte) (x y : Word) (s : State) : (s.buildFrame d f x y).rxbuf = s.rxbuf := rfl
@[simp] theorem State.buildFrame_rxlen (d f : Byte) (x y : Word) (s : State) : (s.buildFrame d f x y).rxlen = s.rxlen := rfl
@[simp] theorem State.buildFrame_w (d f : Byte) (x y : Word) (s : State) : (s.buildFrame d f x y).w = s.w := rfl
@[simp] theorem State.buildFrame_wcnt (d f : Byte) (x y : Word) (s : State) : (s.buildFrame d f x y).wcnt = s.wcnt := rfl
@[simp] theorem State.buildFrame_res (d f : Byte) (x y : Word) (s : State) : (s.buildFrame d f x y).res = s.res := rfl
@[simp] theorem State.buildFrame_phase (d f : Byte) (x y : Word) (s : State) : (s.buildFrame d f x y).phase = s.phase := rfl
@[simp] theorem State.buildFrame_request (d f : Byte) (x y : Word) (s : State) : (s.buildFrame d f x y).request = s.request := rfl
@[simp] theorem State.buildFrame_status (d f : Byte) (x y : Word) (s : State) : (s.buildFrame d f x y).status = s.status := rfl
@[simp] theorem State.buildFrame_verifyOk (d f : Byte) (x y : Word) (s : State) : (s.buildFrame d f x y).verifyOk = s.verifyOk := rfl
@[simp] theorem State.buildFrame_excCode (d f : Byte) (x y : Word) (s : State) : (s.buildFrame d f x y).excCode = s.excCode := rfl
@[simp] theorem State.buildFrame_excFc (d f : Byte) (x y : Word) (s : State) : (s.buildFrame d f x y).excFc = s.excFc := rfl
@[simp] theorem State.buildFrame_connected (d f : Byte) (x y : Word) (s : State) : (s.buildFrame d f x y).connected = s.connected := rfl
@[simp] theorem State.buildFrame_cfgDeviceId (d f : Byte) (x y : Word) (s : State) : (s.buildFrame d f x y).cfgDeviceId = s.cfgDeviceId := rfl
@[simp] theorem State.buildFrame_cfgBaud (d f : Byte) (x y : Word) (s : State) : (s.buildFrame d f x y).cfgBaud = s.cfgBaud := rfl
@[simp] theorem State.buildFrame_cfgTimeout (d f : Byte) (x y : Word) (s : State) : (s.buildFrame d f x y).cfgTimeout = s.cfgTimeout := rfl
@[simp] theorem State.buildFrame_cfgSettle (d f : Byte) (x y : Word) (s : State) : (s.buildFrame d f x y).cfgSettle = s.cfgSettle := rfl
@[simp] theorem State.buildFrame_env (d f : Byte) (x y : Word) (s : State) : (s.buildFrame d f x y).env = s.env := rfl
@[simp] theorem State.buildFrame_inputs (d f : Byte) (x y : Word) (s : State) : (s.buildFrame d f x y).inputs = s.inputs := rfl
@[simp] theorem State.buildFrame_free (d f : Byte) (x y : Word) (s : State) : (s.buildFrame d f x y).free = s.free := rfl

/-! ### raise -/

@[simp] theorem State.raise_acc (e : ErrorKind) (s : State) : (s.raise e).acc = s.acc := by cases e <;> rfl
@[simp] theorem State.raise_txbuf (e : ErrorKind) (s : State) : (s.raise e).txbuf = s.txbuf := by cases e <;> rfl
@[simp] theorem State.raise_hdr (e : ErrorKind) (s : State) : (s.raise e).hdr = s.hdr := by cases e <;> rfl
@[simp] theorem State.raise_rxbuf (e : ErrorKind) (s : State) : (s.raise e).rxbuf = s.rxbuf := by cases e <;> rfl
@[simp] theorem State.raise_rxlen (e : ErrorKind) (s : State) : (s.raise e).rxlen = s.rxlen := by cases e <;> rfl
@[simp] theorem State.raise_w (e : ErrorKind) (s : State) : (s.raise e).w = s.w := by cases e <;> rfl
@[simp] theorem State.raise_wcnt (e : ErrorKind) (s : State) : (s.raise e).wcnt = s.wcnt := by cases e <;> rfl
@[simp] theorem State.raise_res (e : ErrorKind) (s : State) : (s.raise e).res = Config.freeResult s.free := by cases e <;> rfl
@[simp] theorem State.raise_phase (e : ErrorKind) (s : State) : (s.raise e).phase = s.phase := by cases e <;> rfl
@[simp] theorem State.raise_request (e : ErrorKind) (s : State) : (s.raise e).request = s.request := by cases e <;> rfl
@[simp] theorem State.raise_status (e : ErrorKind) (s : State) : (s.raise e).status = errorStatus e := by cases e <;> rfl
@[simp] theorem State.raise_verifyOk (e : ErrorKind) (s : State) : (s.raise e).verifyOk = s.verifyOk := by cases e <;> rfl
@[simp] theorem State.raise_excCode (e : ErrorKind) (s : State) : (s.raise e).excCode = (s.latchException e).excCode := by cases e <;> rfl
@[simp] theorem State.raise_excFc (e : ErrorKind) (s : State) : (s.raise e).excFc = (s.latchException e).excFc := by cases e <;> rfl
@[simp] theorem State.raise_connected (e : ErrorKind) (s : State) : (s.raise e).connected = s.connected := by cases e <;> rfl
@[simp] theorem State.raise_cfgDeviceId (e : ErrorKind) (s : State) : (s.raise e).cfgDeviceId = s.cfgDeviceId := by cases e <;> rfl
@[simp] theorem State.raise_cfgBaud (e : ErrorKind) (s : State) : (s.raise e).cfgBaud = s.cfgBaud := by cases e <;> rfl
@[simp] theorem State.raise_cfgTimeout (e : ErrorKind) (s : State) : (s.raise e).cfgTimeout = s.cfgTimeout := by cases e <;> rfl
@[simp] theorem State.raise_cfgSettle (e : ErrorKind) (s : State) : (s.raise e).cfgSettle = s.cfgSettle := by cases e <;> rfl
@[simp] theorem State.raise_env (e : ErrorKind) (s : State) : (s.raise e).env = s.env := by cases e <;> rfl
@[simp] theorem State.raise_inputs (e : ErrorKind) (s : State) : (s.raise e).inputs = s.inputs := by cases e <;> rfl
@[simp] theorem State.raise_free (e : ErrorKind) (s : State) : (s.raise e).free = s.free + 1 := by cases e <;> rfl

/-! ### failExchange -/

@[simp] theorem State.failExchange_acc (e : ErrorKind) (s : State) : (s.failExchange e).acc = s.acc := by cases e <;> rfl
@[simp] theorem State.failExchange_txbuf (e : ErrorKind) (s : State) : (s.failExchange e).txbuf = s.txbuf := by cases e <;> rfl
@[simp] theorem State.failExchange_hdr (e : ErrorKind) (s : State) : (s.failExchange e).hdr = s.hdr := by cases e <;> rfl
@[simp] theorem State.failExchange_rxbuf (e : ErrorKind) (s : State) : (s.failExchange e).rxbuf = s.rxbuf := by cases e <;> rfl
@[simp] theorem State.failExchange_rxlen (e : ErrorKind) (s : State) : (s.failExchange e).rxlen = s.rxlen := by cases e <;> rfl
@[simp] theorem State.failExchange_w (e : ErrorKind) (s : State) : (s.failExchange e).w = s.w := by cases e <;> rfl
@[simp] theorem State.failExchange_wcnt (e : ErrorKind) (s : State) : (s.failExchange e).wcnt = s.wcnt := by cases e <;> rfl
@[simp] theorem State.failExchange_res (e : ErrorKind) (s : State) : (s.failExchange e).res = Config.freeResult s.free := by cases e <;> rfl
@[simp] theorem State.failExchange_phase (e : ErrorKind) (s : State) : (s.failExchange e).phase = .failed := by cases e <;> rfl
@[simp] theorem State.failExchange_request (e : ErrorKind) (s : State) : (s.failExchange e).request = s.request := by cases e <;> rfl
@[simp] theorem State.failExchange_status (e : ErrorKind) (s : State) : (s.failExchange e).status = errorStatus e := by cases e <;> rfl
@[simp] theorem State.failExchange_verifyOk (e : ErrorKind) (s : State) : (s.failExchange e).verifyOk = s.verifyOk := by cases e <;> rfl
@[simp] theorem State.failExchange_excCode (e : ErrorKind) (s : State) : (s.failExchange e).excCode = (s.latchException e).excCode := by cases e <;> rfl
@[simp] theorem State.failExchange_excFc (e : ErrorKind) (s : State) : (s.failExchange e).excFc = (s.latchException e).excFc := by cases e <;> rfl
@[simp] theorem State.failExchange_connected (e : ErrorKind) (s : State) : (s.failExchange e).connected = s.connected := by cases e <;> rfl
@[simp] theorem State.failExchange_cfgDeviceId (e : ErrorKind) (s : State) : (s.failExchange e).cfgDeviceId = s.cfgDeviceId := by cases e <;> rfl
@[simp] theorem State.failExchange_cfgBaud (e : ErrorKind) (s : State) : (s.failExchange e).cfgBaud = s.cfgBaud := by cases e <;> rfl
@[simp] theorem State.failExchange_cfgTimeout (e : ErrorKind) (s : State) : (s.failExchange e).cfgTimeout = s.cfgTimeout := by cases e <;> rfl
@[simp] theorem State.failExchange_cfgSettle (e : ErrorKind) (s : State) : (s.failExchange e).cfgSettle = s.cfgSettle := by cases e <;> rfl
@[simp] theorem State.failExchange_env (e : ErrorKind) (s : State) : (s.failExchange e).env = s.env := by cases e <;> rfl
@[simp] theorem State.failExchange_inputs (e : ErrorKind) (s : State) : (s.failExchange e).inputs = s.inputs := by cases e <;> rfl
@[simp] theorem State.failExchange_free (e : ErrorKind) (s : State) : (s.failExchange e).free = s.free + 1 := by cases e <;> rfl

/-! ### handOver -/

@[simp] theorem State.handOver_acc (s : State) : s.handOver.acc = s.acc := rfl
@[simp] theorem State.handOver_txbuf (s : State) : s.handOver.txbuf = s.txbuf := rfl
@[simp] theorem State.handOver_hdr (s : State) : s.handOver.hdr = s.hdr := rfl
@[simp] theorem State.handOver_rxbuf (s : State) : s.handOver.rxbuf = s.rxbuf := rfl
@[simp] theorem State.handOver_rxlen (s : State) : s.handOver.rxlen = s.rxlen := rfl
@[simp] theorem State.handOver_w (s : State) : s.handOver.w = s.w := rfl
@[simp] theorem State.handOver_wcnt (s : State) : s.handOver.wcnt = s.wcnt := rfl
@[simp] theorem State.handOver_res (s : State) : s.handOver.res = s.res := rfl
@[simp] theorem State.handOver_phase (s : State) : s.handOver.phase = .idle := rfl
@[simp] theorem State.handOver_request (s : State) : s.handOver.request = s.request := rfl
@[simp] theorem State.handOver_status (s : State) : s.handOver.status = s.status := rfl
@[simp] theorem State.handOver_verifyOk (s : State) : s.handOver.verifyOk = s.verifyOk := rfl
@[simp] theorem State.handOver_excCode (s : State) : s.handOver.excCode = s.excCode := rfl
@[simp] theorem State.handOver_excFc (s : State) : s.handOver.excFc = s.excFc := rfl
@[simp] theorem State.handOver_connected (s : State) : s.handOver.connected = s.connected := rfl
@[simp] theorem State.handOver_cfgDeviceId (s : State) : s.handOver.cfgDeviceId = s.cfgDeviceId := rfl
@[simp] theorem State.handOver_cfgBaud (s : State) : s.handOver.cfgBaud = s.cfgBaud := rfl
@[simp] theorem State.handOver_cfgTimeout (s : State) : s.handOver.cfgTimeout = s.cfgTimeout := rfl
@[simp] theorem State.handOver_cfgSettle (s : State) : s.handOver.cfgSettle = s.cfgSettle := rfl
@[simp] theorem State.handOver_env (s : State) : s.handOver.env = s.env := rfl
@[simp] theorem State.handOver_inputs (s : State) : s.handOver.inputs = s.inputs := rfl
@[simp] theorem State.handOver_free (s : State) : s.handOver.free = s.free := rfl

/-! ### latchWords -/

@[simp] theorem State.latchWords_acc (ws : List Word) (s : State) : (s.latchWords ws).acc = s.acc := rfl
@[simp] theorem State.latchWords_txbuf (ws : List Word) (s : State) : (s.latchWords ws).txbuf = s.txbuf := rfl
@[simp] theorem State.latchWords_hdr (ws : List Word) (s : State) : (s.latchWords ws).hdr = s.hdr := rfl
@[simp] theorem State.latchWords_rxbuf (ws : List Word) (s : State) : (s.latchWords ws).rxbuf = s.rxbuf := rfl
@[simp] theorem State.latchWords_rxlen (ws : List Word) (s : State) : (s.latchWords ws).rxlen = s.rxlen := rfl
@[simp] theorem State.latchWords_w (ws : List Word) (s : State) : (s.latchWords ws).w = ws := rfl
@[simp] theorem State.latchWords_wcnt (ws : List Word) (s : State) : (s.latchWords ws).wcnt = ws.length := rfl
@[simp] theorem State.latchWords_res (ws : List Word) (s : State) : (s.latchWords ws).res = s.res := rfl
@[simp] theorem State.latchWords_phase (ws : List Word) (s : State) : (s.latchWords ws).phase = s.phase := rfl
@[simp] theorem State.latchWords_request (ws : List Word) (s : State) : (s.latchWords ws).request = s.request := rfl
@[simp] theorem State.latchWords_status (ws : List Word) (s : State) : (s.latchWords ws).status = s.status := rfl
@[simp] theorem State.latchWords_verifyOk (ws : List Word) (s : State) : (s.latchWords ws).verifyOk = s.verifyOk := rfl
@[simp] theorem State.latchWords_excCode (ws : List Word) (s : State) : (s.latchWords ws).excCode = s.excCode := rfl
@[simp] theorem State.latchWords_excFc (ws : List Word) (s : State) : (s.latchWords ws).excFc = s.excFc := rfl
@[simp] theorem State.latchWords_connected (ws : List Word) (s : State) : (s.latchWords ws).connected = s.connected := rfl
@[simp] theorem State.latchWords_cfgDeviceId (ws : List Word) (s : State) : (s.latchWords ws).cfgDeviceId = s.cfgDeviceId := rfl
@[simp] theorem State.latchWords_cfgBaud (ws : List Word) (s : State) : (s.latchWords ws).cfgBaud = s.cfgBaud := rfl
@[simp] theorem State.latchWords_cfgTimeout (ws : List Word) (s : State) : (s.latchWords ws).cfgTimeout = s.cfgTimeout := rfl
@[simp] theorem State.latchWords_cfgSettle (ws : List Word) (s : State) : (s.latchWords ws).cfgSettle = s.cfgSettle := rfl
@[simp] theorem State.latchWords_env (ws : List Word) (s : State) : (s.latchWords ws).env = s.env := rfl
@[simp] theorem State.latchWords_inputs (ws : List Word) (s : State) : (s.latchWords ws).inputs = s.inputs := rfl
@[simp] theorem State.latchWords_free (ws : List Word) (s : State) : (s.latchWords ws).free = s.free := rfl

/-! ### rxReadState -/

@[simp] theorem State.rxReadState_acc (n : Nat) (s : State) : (s.rxReadState n).acc = s.acc := by unfold State.rxReadState State.dropBurst; split <;> rfl
@[simp] theorem State.rxReadState_txbuf (n : Nat) (s : State) : (s.rxReadState n).txbuf = s.txbuf := by unfold State.rxReadState State.dropBurst; split <;> rfl
@[simp] theorem State.rxReadState_hdr (n : Nat) (s : State) : (s.rxReadState n).hdr = s.hdr := by unfold State.rxReadState State.dropBurst; split <;> rfl
@[simp] theorem State.rxReadState_rxbuf (n : Nat) (s : State) : (s.rxReadState n).rxbuf = s.rxbuf := by unfold State.rxReadState State.dropBurst; split <;> rfl
@[simp] theorem State.rxReadState_rxlen (n : Nat) (s : State) : (s.rxReadState n).rxlen = s.rxlen := by unfold State.rxReadState State.dropBurst; split <;> rfl
@[simp] theorem State.rxReadState_w (n : Nat) (s : State) : (s.rxReadState n).w = s.w := by unfold State.rxReadState State.dropBurst; split <;> rfl
@[simp] theorem State.rxReadState_wcnt (n : Nat) (s : State) : (s.rxReadState n).wcnt = s.wcnt := by unfold State.rxReadState State.dropBurst; split <;> rfl
@[simp] theorem State.rxReadState_res (n : Nat) (s : State) : (s.rxReadState n).res = s.res := by unfold State.rxReadState State.dropBurst; split <;> rfl
@[simp] theorem State.rxReadState_phase (n : Nat) (s : State) : (s.rxReadState n).phase = s.phase := by unfold State.rxReadState State.dropBurst; split <;> rfl
@[simp] theorem State.rxReadState_request (n : Nat) (s : State) : (s.rxReadState n).request = s.request := by unfold State.rxReadState State.dropBurst; split <;> rfl
@[simp] theorem State.rxReadState_status (n : Nat) (s : State) : (s.rxReadState n).status = s.status := by unfold State.rxReadState State.dropBurst; split <;> rfl
@[simp] theorem State.rxReadState_verifyOk (n : Nat) (s : State) : (s.rxReadState n).verifyOk = s.verifyOk := by unfold State.rxReadState State.dropBurst; split <;> rfl
@[simp] theorem State.rxReadState_excCode (n : Nat) (s : State) : (s.rxReadState n).excCode = s.excCode := by unfold State.rxReadState State.dropBurst; split <;> rfl
@[simp] theorem State.rxReadState_excFc (n : Nat) (s : State) : (s.rxReadState n).excFc = s.excFc := by unfold State.rxReadState State.dropBurst; split <;> rfl
@[simp] theorem State.rxReadState_connected (n : Nat) (s : State) : (s.rxReadState n).connected = s.connected := by unfold State.rxReadState State.dropBurst; split <;> rfl
@[simp] theorem State.rxReadState_cfgDeviceId (n : Nat) (s : State) : (s.rxReadState n).cfgDeviceId = s.cfgDeviceId := by unfold State.rxReadState State.dropBurst; split <;> rfl
@[simp] theorem State.rxReadState_cfgBaud (n : Nat) (s : State) : (s.rxReadState n).cfgBaud = s.cfgBaud := by unfold State.rxReadState State.dropBurst; split <;> rfl
@[simp] theorem State.rxReadState_cfgTimeout (n : Nat) (s : State) : (s.rxReadState n).cfgTimeout = s.cfgTimeout := by unfold State.rxReadState State.dropBurst; split <;> rfl
@[simp] theorem State.rxReadState_cfgSettle (n : Nat) (s : State) : (s.rxReadState n).cfgSettle = s.cfgSettle := by unfold State.rxReadState State.dropBurst; split <;> rfl
@[simp] theorem State.rxReadState_inputs (n : Nat) (s : State) : (s.rxReadState n).inputs = s.inputs := by unfold State.rxReadState State.dropBurst; split <;> rfl

@[simp] theorem State.rxReadState_link (n : Nat) (s : State) : (s.rxReadState n).env.link = s.env.link := by
  unfold State.rxReadState State.dropBurst; split <;> rfl
@[simp] theorem State.rxReadState_tx (n : Nat) (s : State) : (s.rxReadState n).env.tx = s.env.tx := by
  unfold State.rxReadState State.dropBurst; split <;> rfl
@[simp] theorem State.rxReadState_opens (n : Nat) (s : State) : (s.rxReadState n).env.opens = s.env.opens := by
  unfold State.rxReadState State.dropBurst; split <;> rfl
@[simp] theorem State.rxReadState_rxq (n : Nat) (s : State) :
    (s.rxReadState n).env.rxq = (s.env.rxq ++ s.nextBurst).drop n := rfl
@[simp] theorem State.rxReadState_bursts (n : Nat) (s : State) :
    (s.rxReadState n).env.bursts = s.env.bursts.drop 1 := by
  unfold State.rxReadState State.dropBurst
  rcases h : s.env.bursts with _ | ⟨b, rest⟩ <;> simp [h]

/-! ### sendRequest -/

@[simp] theorem State.sendRequest_acc (d : Byte) (r : Request) (s : State) : (s.sendRequest d r).acc = requestCrc d r := rfl
@[simp] theorem State.sendRequest_txbuf (d : Byte) (r : Request) (s : State) : (s.sendRequest d r).txbuf = requestFrame d r := rfl
@[simp] theorem State.sendRequest_hdr (d : Byte) (r : Request) (s : State) : (s.sendRequest d r).hdr = s.hdr := rfl
@[simp] theorem State.sendRequest_rxbuf (d : Byte) (r : Request) (s : State) : (s.sendRequest d r).rxbuf = s.rxbuf := rfl
@[simp] theorem State.sendRequest_rxlen (d : Byte) (r : Request) (s : State) : (s.sendRequest d r).rxlen = s.rxlen := rfl
@[simp] theorem State.sendRequest_w (d : Byte) (r : Request) (s : State) : (s.sendRequest d r).w = s.w := rfl
@[simp] theorem State.sendRequest_wcnt (d : Byte) (r : Request) (s : State) : (s.sendRequest d r).wcnt = s.wcnt := rfl
@[simp] theorem State.sendRequest_res (d : Byte) (r : Request) (s : State) : (s.sendRequest d r).res = s.res := rfl
@[simp] theorem State.sendRequest_phase (d : Byte) (r : Request) (s : State) : (s.sendRequest d r).phase = .sent := rfl
@[simp] theorem State.sendRequest_request (d : Byte) (r : Request) (s : State) : (s.sendRequest d r).request = r := rfl
@[simp] theorem State.sendRequest_status (d : Byte) (r : Request) (s : State) : (s.sendRequest d r).status = s.status := rfl
@[simp] theorem State.sendRequest_verifyOk (d : Byte) (r : Request) (s : State) : (s.sendRequest d r).verifyOk = s.verifyOk := rfl
@[simp] theorem State.sendRequest_excCode (d : Byte) (r : Request) (s : State) : (s.sendRequest d r).excCode = s.excCode := rfl
@[simp] theorem State.sendRequest_excFc (d : Byte) (r : Request) (s : State) : (s.sendRequest d r).excFc = s.excFc := rfl
@[simp] theorem State.sendRequest_connected (d : Byte) (r : Request) (s : State) : (s.sendRequest d r).connected = s.connected := rfl
@[simp] theorem State.sendRequest_cfgDeviceId (d : Byte) (r : Request) (s : State) : (s.sendRequest d r).cfgDeviceId = s.cfgDeviceId := rfl
@[simp] theorem State.sendRequest_cfgBaud (d : Byte) (r : Request) (s : State) : (s.sendRequest d r).cfgBaud = s.cfgBaud := rfl
@[simp] theorem State.sendRequest_cfgTimeout (d : Byte) (r : Request) (s : State) : (s.sendRequest d r).cfgTimeout = s.cfgTimeout := rfl
@[simp] theorem State.sendRequest_cfgSettle (d : Byte) (r : Request) (s : State) : (s.sendRequest d r).cfgSettle = s.cfgSettle := rfl
@[simp] theorem State.sendRequest_env (d : Byte) (r : Request) (s : State) : (s.sendRequest d r).env = { s.env with rxq := [], tx := s.env.tx ++ (requestFrame d r).toList } := rfl
@[simp] theorem State.sendRequest_inputs (d : Byte) (r : Request) (s : State) : (s.sendRequest d r).inputs = s.inputs := rfl
@[simp] theorem State.sendRequest_free (d : Byte) (r : Request) (s : State) : (s.sendRequest d r).free = s.free := rfl

/-! ### receiveBytes -/

@[simp] theorem State.receiveBytes_acc (bs : List Byte) (s : State) : (s.receiveBytes bs).acc = s.acc := rfl
@[simp] theorem State.receiveBytes_txbuf (bs : List Byte) (s : State) : (s.receiveBytes bs).txbuf = s.txbuf := rfl
@[simp] theorem State.receiveBytes_hdr (bs : List Byte) (s : State) : (s.receiveBytes bs).hdr = s.hdr := rfl
@[simp] theorem State.receiveBytes_rxbuf (bs : List Byte) (s : State) : (s.receiveBytes bs).rxbuf = s.rxbuf := rfl
@[simp] theorem State.receiveBytes_rxlen (bs : List Byte) (s : State) : (s.receiveBytes bs).rxlen = s.rxlen := rfl
@[simp] theorem State.receiveBytes_w (bs : List Byte) (s : State) : (s.receiveBytes bs).w = s.w := rfl
@[simp] theorem State.receiveBytes_wcnt (bs : List Byte) (s : State) : (s.receiveBytes bs).wcnt = s.wcnt := rfl
@[simp] theorem State.receiveBytes_res (bs : List Byte) (s : State) : (s.receiveBytes bs).res = s.res := rfl
@[simp] theorem State.receiveBytes_phase (bs : List Byte) (s : State) : (s.receiveBytes bs).phase = s.phase := rfl
@[simp] theorem State.receiveBytes_request (bs : List Byte) (s : State) : (s.receiveBytes bs).request = s.request := rfl
@[simp] theorem State.receiveBytes_status (bs : List Byte) (s : State) : (s.receiveBytes bs).status = s.status := rfl
@[simp] theorem State.receiveBytes_verifyOk (bs : List Byte) (s : State) : (s.receiveBytes bs).verifyOk = s.verifyOk := rfl
@[simp] theorem State.receiveBytes_excCode (bs : List Byte) (s : State) : (s.receiveBytes bs).excCode = s.excCode := rfl
@[simp] theorem State.receiveBytes_excFc (bs : List Byte) (s : State) : (s.receiveBytes bs).excFc = s.excFc := rfl
@[simp] theorem State.receiveBytes_connected (bs : List Byte) (s : State) : (s.receiveBytes bs).connected = s.connected := rfl
@[simp] theorem State.receiveBytes_cfgDeviceId (bs : List Byte) (s : State) : (s.receiveBytes bs).cfgDeviceId = s.cfgDeviceId := rfl
@[simp] theorem State.receiveBytes_cfgBaud (bs : List Byte) (s : State) : (s.receiveBytes bs).cfgBaud = s.cfgBaud := rfl
@[simp] theorem State.receiveBytes_cfgTimeout (bs : List Byte) (s : State) : (s.receiveBytes bs).cfgTimeout = s.cfgTimeout := rfl
@[simp] theorem State.receiveBytes_cfgSettle (bs : List Byte) (s : State) : (s.receiveBytes bs).cfgSettle = s.cfgSettle := rfl
@[simp] theorem State.receiveBytes_env (bs : List Byte) (s : State) : (s.receiveBytes bs).env = { s.env with rxq := s.env.rxq ++ bs } := rfl
@[simp] theorem State.receiveBytes_inputs (bs : List Byte) (s : State) : (s.receiveBytes bs).inputs = s.inputs := rfl
@[simp] theorem State.receiveBytes_free (bs : List Byte) (s : State) : (s.receiveBytes bs).free = s.free := rfl

/-! ### openLink -/

@[simp] theorem State.openLink_acc (s : State) : s.openLink.acc = s.acc := rfl
@[simp] theorem State.openLink_txbuf (s : State) : s.openLink.txbuf = s.txbuf := rfl
@[simp] theorem State.openLink_hdr (s : State) : s.openLink.hdr = s.hdr := rfl
@[simp] theorem State.openLink_rxbuf (s : State) : s.openLink.rxbuf = s.rxbuf := rfl
@[simp] theorem State.openLink_rxlen (s : State) : s.openLink.rxlen = s.rxlen := rfl
@[simp] theorem State.openLink_w (s : State) : s.openLink.w = s.w := rfl
@[simp] theorem State.openLink_wcnt (s : State) : s.openLink.wcnt = s.wcnt := rfl
@[simp] theorem State.openLink_res (s : State) : s.openLink.res = s.res := rfl
@[simp] theorem State.openLink_phase (s : State) : s.openLink.phase = s.phase := rfl
@[simp] theorem State.openLink_request (s : State) : s.openLink.request = s.request := rfl
@[simp] theorem State.openLink_status (s : State) : s.openLink.status = s.status := rfl
@[simp] theorem State.openLink_verifyOk (s : State) : s.openLink.verifyOk = s.verifyOk := rfl
@[simp] theorem State.openLink_excCode (s : State) : s.openLink.excCode = s.excCode := rfl
@[simp] theorem State.openLink_excFc (s : State) : s.openLink.excFc = s.excFc := rfl
@[simp] theorem State.openLink_connected (s : State) : s.openLink.connected = true := rfl
@[simp] theorem State.openLink_cfgDeviceId (s : State) : s.openLink.cfgDeviceId = s.cfgDeviceId := rfl
@[simp] theorem State.openLink_cfgBaud (s : State) : s.openLink.cfgBaud = s.cfgBaud := rfl
@[simp] theorem State.openLink_cfgTimeout (s : State) : s.openLink.cfgTimeout = s.cfgTimeout := rfl
@[simp] theorem State.openLink_cfgSettle (s : State) : s.openLink.cfgSettle = s.cfgSettle := rfl
@[simp] theorem State.openLink_env (s : State) : s.openLink.env = { s.env with link := some ⟨s.cfgBaud, s.cfgTimeout⟩ } := rfl
@[simp] theorem State.openLink_inputs (s : State) : s.openLink.inputs = s.inputs := rfl
@[simp] theorem State.openLink_free (s : State) : s.openLink.free = s.free := rfl

/-! ### closeLink -/

@[simp] theorem State.closeLink_acc (s : State) : s.closeLink.acc = s.acc := rfl
@[simp] theorem State.closeLink_txbuf (s : State) : s.closeLink.txbuf = s.txbuf := rfl
@[simp] theorem State.closeLink_hdr (s : State) : s.closeLink.hdr = s.hdr := rfl
@[simp] theorem State.closeLink_rxbuf (s : State) : s.closeLink.rxbuf = s.rxbuf := rfl
@[simp] theorem State.closeLink_rxlen (s : State) : s.closeLink.rxlen = s.rxlen := rfl
@[simp] theorem State.closeLink_w (s : State) : s.closeLink.w = s.w := rfl
@[simp] theorem State.closeLink_wcnt (s : State) : s.closeLink.wcnt = s.wcnt := rfl
@[simp] theorem State.closeLink_res (s : State) : s.closeLink.res = s.res := rfl
@[simp] theorem State.closeLink_phase (s : State) : s.closeLink.phase = s.phase := rfl
@[simp] theorem State.closeLink_request (s : State) : s.closeLink.request = s.request := rfl
@[simp] theorem State.closeLink_status (s : State) : s.closeLink.status = s.status := rfl
@[simp] theorem State.closeLink_verifyOk (s : State) : s.closeLink.verifyOk = s.verifyOk := rfl
@[simp] theorem State.closeLink_excCode (s : State) : s.closeLink.excCode = s.excCode := rfl
@[simp] theorem State.closeLink_excFc (s : State) : s.closeLink.excFc = s.excFc := rfl
@[simp] theorem State.closeLink_connected (s : State) : s.closeLink.connected = false := rfl
@[simp] theorem State.closeLink_cfgDeviceId (s : State) : s.closeLink.cfgDeviceId = s.cfgDeviceId := rfl
@[simp] theorem State.closeLink_cfgBaud (s : State) : s.closeLink.cfgBaud = s.cfgBaud := rfl
@[simp] theorem State.closeLink_cfgTimeout (s : State) : s.closeLink.cfgTimeout = s.cfgTimeout := rfl
@[simp] theorem State.closeLink_cfgSettle (s : State) : s.closeLink.cfgSettle = s.cfgSettle := rfl
@[simp] theorem State.closeLink_env (s : State) : s.closeLink.env = { s.env with link := none, rxq := [] } := rfl
@[simp] theorem State.closeLink_inputs (s : State) : s.closeLink.inputs = s.inputs := rfl
@[simp] theorem State.closeLink_free (s : State) : s.closeLink.free = s.free := rfl

/-! ### takeInput -/

@[simp] theorem State.takeInput_acc (s : State) : s.takeInput.acc = s.acc := rfl
@[simp] theorem State.takeInput_txbuf (s : State) : s.takeInput.txbuf = s.txbuf := rfl
@[simp] theorem State.takeInput_hdr (s : State) : s.takeInput.hdr = s.hdr := rfl
@[simp] theorem State.takeInput_rxbuf (s : State) : s.takeInput.rxbuf = s.rxbuf := rfl
@[simp] theorem State.takeInput_rxlen (s : State) : s.takeInput.rxlen = s.rxlen := rfl
@[simp] theorem State.takeInput_w (s : State) : s.takeInput.w = s.w := rfl
@[simp] theorem State.takeInput_wcnt (s : State) : s.takeInput.wcnt = s.wcnt := rfl
@[simp] theorem State.takeInput_res (s : State) : s.takeInput.res = s.res := rfl
@[simp] theorem State.takeInput_phase (s : State) : s.takeInput.phase = s.phase := rfl
@[simp] theorem State.takeInput_request (s : State) : s.takeInput.request = s.request := rfl
@[simp] theorem State.takeInput_status (s : State) : s.takeInput.status = s.status := rfl
@[simp] theorem State.takeInput_verifyOk (s : State) : s.takeInput.verifyOk = s.verifyOk := rfl
@[simp] theorem State.takeInput_excCode (s : State) : s.takeInput.excCode = s.excCode := rfl
@[simp] theorem State.takeInput_excFc (s : State) : s.takeInput.excFc = s.excFc := rfl
@[simp] theorem State.takeInput_connected (s : State) : s.takeInput.connected = s.connected := rfl
@[simp] theorem State.takeInput_cfgDeviceId (s : State) : s.takeInput.cfgDeviceId = s.cfgDeviceId := rfl
@[simp] theorem State.takeInput_cfgBaud (s : State) : s.takeInput.cfgBaud = s.cfgBaud := rfl
@[simp] theorem State.takeInput_cfgTimeout (s : State) : s.takeInput.cfgTimeout = s.cfgTimeout := rfl
@[simp] theorem State.takeInput_cfgSettle (s : State) : s.takeInput.cfgSettle = s.cfgSettle := rfl
@[simp] theorem State.takeInput_env (s : State) : s.takeInput.env = s.env := rfl
@[simp] theorem State.takeInput_inputs (s : State) : s.takeInput.inputs = s.inputs.drop 1 := rfl
@[simp] theorem State.takeInput_free (s : State) : s.takeInput.free = s.free := rfl

/-! ### offerInput -/

@[simp] theorem State.offerInput_acc (x : Input) (s : State) : (s.offerInput x).acc = s.acc := rfl
@[simp] theorem State.offerInput_txbuf (x : Input) (s : State) : (s.offerInput x).txbuf = s.txbuf := rfl
@[simp] theorem State.offerInput_hdr (x : Input) (s : State) : (s.offerInput x).hdr = s.hdr := rfl
@[simp] theorem State.offerInput_rxbuf (x : Input) (s : State) : (s.offerInput x).rxbuf = s.rxbuf := rfl
@[simp] theorem State.offerInput_rxlen (x : Input) (s : State) : (s.offerInput x).rxlen = s.rxlen := rfl
@[simp] theorem State.offerInput_w (x : Input) (s : State) : (s.offerInput x).w = s.w := rfl
@[simp] theorem State.offerInput_wcnt (x : Input) (s : State) : (s.offerInput x).wcnt = s.wcnt := rfl
@[simp] theorem State.offerInput_res (x : Input) (s : State) : (s.offerInput x).res = s.res := rfl
@[simp] theorem State.offerInput_phase (x : Input) (s : State) : (s.offerInput x).phase = s.phase := rfl
@[simp] theorem State.offerInput_request (x : Input) (s : State) : (s.offerInput x).request = s.request := rfl
@[simp] theorem State.offerInput_status (x : Input) (s : State) : (s.offerInput x).status = s.status := rfl
@[simp] theorem State.offerInput_verifyOk (x : Input) (s : State) : (s.offerInput x).verifyOk = s.verifyOk := rfl
@[simp] theorem State.offerInput_excCode (x : Input) (s : State) : (s.offerInput x).excCode = s.excCode := rfl
@[simp] theorem State.offerInput_excFc (x : Input) (s : State) : (s.offerInput x).excFc = s.excFc := rfl
@[simp] theorem State.offerInput_connected (x : Input) (s : State) : (s.offerInput x).connected = s.connected := rfl
@[simp] theorem State.offerInput_cfgDeviceId (x : Input) (s : State) : (s.offerInput x).cfgDeviceId = s.cfgDeviceId := rfl
@[simp] theorem State.offerInput_cfgBaud (x : Input) (s : State) : (s.offerInput x).cfgBaud = s.cfgBaud := rfl
@[simp] theorem State.offerInput_cfgTimeout (x : Input) (s : State) : (s.offerInput x).cfgTimeout = s.cfgTimeout := rfl
@[simp] theorem State.offerInput_cfgSettle (x : Input) (s : State) : (s.offerInput x).cfgSettle = s.cfgSettle := rfl
@[simp] theorem State.offerInput_env (x : Input) (s : State) : (s.offerInput x).env = s.env := rfl
@[simp] theorem State.offerInput_inputs (x : Input) (s : State) : (s.offerInput x).inputs = x :: s.inputs := rfl
@[simp] theorem State.offerInput_free (x : Input) (s : State) : (s.offerInput x).free = s.free := rfl

/-! ### forgetException -/

@[simp] theorem State.forgetException_acc (s : State) : s.forgetException.acc = s.acc := rfl
@[simp] theorem State.forgetException_txbuf (s : State) : s.forgetException.txbuf = s.txbuf := rfl
@[simp] theorem State.forgetException_hdr (s : State) : s.forgetException.hdr = s.hdr := rfl
@[simp] theorem State.forgetException_rxbuf (s : State) : s.forgetException.rxbuf = s.rxbuf := rfl
@[simp] theorem State.forgetException_rxlen (s : State) : s.forgetException.rxlen = s.rxlen := rfl
@[simp] theorem State.forgetException_w (s : State) : s.forgetException.w = s.w := rfl
@[simp] theorem State.forgetException_wcnt (s : State) : s.forgetException.wcnt = s.wcnt := rfl
@[simp] theorem State.forgetException_res (s : State) : s.forgetException.res = s.res := rfl
@[simp] theorem State.forgetException_phase (s : State) : s.forgetException.phase = s.phase := rfl
@[simp] theorem State.forgetException_request (s : State) : s.forgetException.request = s.request := rfl
@[simp] theorem State.forgetException_status (s : State) : s.forgetException.status = s.status := rfl
@[simp] theorem State.forgetException_verifyOk (s : State) : s.forgetException.verifyOk = s.verifyOk := rfl
@[simp] theorem State.forgetException_excCode (s : State) : s.forgetException.excCode = Config.freeByte s.free := rfl
@[simp] theorem State.forgetException_excFc (s : State) : s.forgetException.excFc = Config.freeByte (s.free + 1) := rfl
@[simp] theorem State.forgetException_connected (s : State) : s.forgetException.connected = s.connected := rfl
@[simp] theorem State.forgetException_cfgDeviceId (s : State) : s.forgetException.cfgDeviceId = s.cfgDeviceId := rfl
@[simp] theorem State.forgetException_cfgBaud (s : State) : s.forgetException.cfgBaud = s.cfgBaud := rfl
@[simp] theorem State.forgetException_cfgTimeout (s : State) : s.forgetException.cfgTimeout = s.cfgTimeout := rfl
@[simp] theorem State.forgetException_cfgSettle (s : State) : s.forgetException.cfgSettle = s.cfgSettle := rfl
@[simp] theorem State.forgetException_env (s : State) : s.forgetException.env = s.env := rfl
@[simp] theorem State.forgetException_inputs (s : State) : s.forgetException.inputs = s.inputs := rfl
@[simp] theorem State.forgetException_free (s : State) : s.forgetException.free = s.free + 2 := rfl

/-! ### runVerify -/

@[simp] theorem State.runVerify_acc (buf : List Byte) (s : State) : (s.runVerify buf).acc = if buf.length < 3 then s.acc else crc16 (verifyMessage buf) := by unfold State.runVerify verify; split <;> rfl
@[simp] theorem State.runVerify_txbuf (buf : List Byte) (s : State) : (s.runVerify buf).txbuf = s.txbuf := by unfold State.runVerify verify; split <;> rfl
@[simp] theorem State.runVerify_hdr (buf : List Byte) (s : State) : (s.runVerify buf).hdr = s.hdr := by unfold State.runVerify verify; split <;> rfl
@[simp] theorem State.runVerify_rxbuf (buf : List Byte) (s : State) : (s.runVerify buf).rxbuf = s.rxbuf := by unfold State.runVerify verify; split <;> rfl
@[simp] theorem State.runVerify_rxlen (buf : List Byte) (s : State) : (s.runVerify buf).rxlen = s.rxlen := by unfold State.runVerify verify; split <;> rfl
@[simp] theorem State.runVerify_w (buf : List Byte) (s : State) : (s.runVerify buf).w = s.w := by unfold State.runVerify verify; split <;> rfl
@[simp] theorem State.runVerify_wcnt (buf : List Byte) (s : State) : (s.runVerify buf).wcnt = s.wcnt := by unfold State.runVerify verify; split <;> rfl
@[simp] theorem State.runVerify_res (buf : List Byte) (s : State) : (s.runVerify buf).res = s.res := by unfold State.runVerify verify; split <;> rfl
@[simp] theorem State.runVerify_phase (buf : List Byte) (s : State) : (s.runVerify buf).phase = s.phase := by unfold State.runVerify verify; split <;> rfl
@[simp] theorem State.runVerify_request (buf : List Byte) (s : State) : (s.runVerify buf).request = s.request := by unfold State.runVerify verify; split <;> rfl
@[simp] theorem State.runVerify_status (buf : List Byte) (s : State) : (s.runVerify buf).status = s.status := by unfold State.runVerify verify; split <;> rfl
@[simp] theorem State.runVerify_verifyOk (buf : List Byte) (s : State) : (s.runVerify buf).verifyOk = verify buf := by unfold State.runVerify verify; split <;> rfl
@[simp] theorem State.runVerify_excCode (buf : List Byte) (s : State) : (s.runVerify buf).excCode = s.excCode := by unfold State.runVerify verify; split <;> rfl
@[simp] theorem State.runVerify_excFc (buf : List Byte) (s : State) : (s.runVerify buf).excFc = s.excFc := by unfold State.runVerify verify; split <;> rfl
@[simp] theorem State.runVerify_connected (buf : List Byte) (s : State) : (s.runVerify buf).connected = s.connected := by unfold State.runVerify verify; split <;> rfl
@[simp] theorem State.runVerify_cfgDeviceId (buf : List Byte) (s : State) : (s.runVerify buf).cfgDeviceId = s.cfgDeviceId := by unfold State.runVerify verify; split <;> rfl
@[simp] theorem State.runVerify_cfgBaud (buf : List Byte) (s : State) : (s.runVerify buf).cfgBaud = s.cfgBaud := by unfold State.runVerify verify; split <;> rfl
@[simp] theorem State.runVerify_cfgTimeout (buf : List Byte) (s : State) : (s.runVerify buf).cfgTimeout = s.cfgTimeout := by unfold State.runVerify verify; split <;> rfl
@[simp] theorem State.runVerify_cfgSettle (buf : List Byte) (s : State) : (s.runVerify buf).cfgSettle = s.cfgSettle := by unfold State.runVerify verify; split <;> rfl
@[simp] theorem State.runVerify_env (buf : List Byte) (s : State) : (s.runVerify buf).env = s.env := by unfold State.runVerify verify; split <;> rfl
@[simp] theorem State.runVerify_inputs (buf : List Byte) (s : State) : (s.runVerify buf).inputs = s.inputs := by unfold State.runVerify verify; split <;> rfl
@[simp] theorem State.runVerify_free (buf : List Byte) (s : State) : (s.runVerify buf).free = s.free := by unfold State.runVerify verify; split <;> rfl

/-! ### dropOpen -/

@[simp] theorem State.dropOpen_acc (s : State) : s.dropOpen.acc = s.acc := by unfold State.dropOpen; split <;> rfl
@[simp] theorem State.dropOpen_txbuf (s : State) : s.dropOpen.txbuf = s.txbuf := by unfold State.dropOpen; split <;> rfl
@[simp] theorem State.dropOpen_hdr (s : State) : s.dropOpen.hdr = s.hdr := by unfold State.dropOpen; split <;> rfl
@[simp] theorem State.dropOpen_rxbuf (s : State) : s.dropOpen.rxbuf = s.rxbuf := by unfold State.dropOpen; split <;> rfl
@[simp] theorem State.dropOpen_rxlen (s : State) : s.dropOpen.rxlen = s.rxlen := by unfold State.dropOpen; split <;> rfl
@[simp] theorem State.dropOpen_w (s : State) : s.dropOpen.w = s.w := by unfold State.dropOpen; split <;> rfl
@[simp] theorem State.dropOpen_wcnt (s : State) : s.dropOpen.wcnt = s.wcnt := by unfold State.dropOpen; split <;> rfl
@[simp] theorem State.dropOpen_res (s : State) : s.dropOpen.res = s.res := by unfold State.dropOpen; split <;> rfl
@[simp] theorem State.dropOpen_phase (s : State) : s.dropOpen.phase = s.phase := by unfold State.dropOpen; split <;> rfl
@[simp] theorem State.dropOpen_request (s : State) : s.dropOpen.request = s.request := by unfold State.dropOpen; split <;> rfl
@[simp] theorem State.dropOpen_status (s : State) : s.dropOpen.status = s.status := by unfold State.dropOpen; split <;> rfl
@[simp] theorem State.dropOpen_verifyOk (s : State) : s.dropOpen.verifyOk = s.verifyOk := by unfold State.dropOpen; split <;> rfl
@[simp] theorem State.dropOpen_excCode (s : State) : s.dropOpen.excCode = s.excCode := by unfold State.dropOpen; split <;> rfl
@[simp] theorem State.dropOpen_excFc (s : State) : s.dropOpen.excFc = s.excFc := by unfold State.dropOpen; split <;> rfl
@[simp] theorem State.dropOpen_connected (s : State) : s.dropOpen.connected = s.connected := by unfold State.dropOpen; split <;> rfl
@[simp] theorem State.dropOpen_cfgDeviceId (s : State) : s.dropOpen.cfgDeviceId = s.cfgDeviceId := by unfold State.dropOpen; split <;> rfl
@[simp] theorem State.dropOpen_cfgBaud (s : State) : s.dropOpen.cfgBaud = s.cfgBaud := by unfold State.dropOpen; split <;> rfl
@[simp] theorem State.dropOpen_cfgTimeout (s : State) : s.dropOpen.cfgTimeout = s.cfgTimeout := by unfold State.dropOpen; split <;> rfl
@[simp] theorem State.dropOpen_cfgSettle (s : State) : s.dropOpen.cfgSettle = s.cfgSettle := by unfold State.dropOpen; split <;> rfl
@[simp] theorem State.dropOpen_inputs (s : State) : s.dropOpen.inputs = s.inputs := by unfold State.dropOpen; split <;> rfl

@[simp] theorem State.dropOpen_env (s : State) : s.dropOpen.env = { s.env with opens := s.env.opens.drop 1 } := by
  unfold State.dropOpen
  split <;> rename_i h
  · simp [h]
  · rw [h, List.drop_nil, ← h]

end Sys2Proof.Machine
end

