-- ==== Sys2Proof/Laws/Sequencer.lean ====
section
/-! SUPPORT. What one exchange can do: each way it can end, and what every exchange leaves alone. -/

namespace Sys2Proof.Machine

/-! ### The transport -/

theorem length_rxReadBytes_le (n : Nat) (s : State) : (s.rxReadBytes n).length ≤ n := by
  simp [State.rxReadBytes]

theorem rxReadBytes_sendRequest (n : Nat) (d : Byte) (r : Request) (s : State) :
    (s.sendRequest d r).rxReadBytes n = ((s.sendRequest d r).nextBurst).take n := rfl

/-- Sending does not change what the environment will deliver next. -/
@[simp] theorem nextBurst_sendRequest (d : Byte) (r : Request) (s : State) :
    (s.sendRequest d r).nextBurst = s.nextBurst := rfl

/-- The flush makes the sent state independent of the buffered input (R173). -/
theorem sendRequest_withRxq (d : Byte) (r : Request) (s : State) (q : List Byte) :
    ({ s with env := { s.env with rxq := q } } : State).sendRequest d r = s.sendRequest d r := rfl

/-! ### Running the phases -/

theorem runPhases_idle (k : Nat) (s : State) (h : s.phase = .idle) : runPhases k s = .next s := by
  cases k with
  | zero => rfl
  | succ k => simp [runPhases, h]

theorem runPhases_next (k : Nat) (s t : State) (h : s.phase ≠ .idle) (ht : phaseStep s = .next t) :
    runPhases (k + 1) s = runPhases k t := by
  simp [runPhases, h, ht]

theorem runPhases_refused (k : Nat) (s : State) (r : Refusal) (h : s.phase ≠ .idle) (ht : phaseStep s = .refused r) :
    runPhases (k + 1) s = .refused r := by
  simp [runPhases, h, ht]

theorem phaseStep_sent (s : State) (h : s.phase = .sent) : phaseStep s = stepSent s := by
  simp only [phaseStep, h]

theorem phaseStep_headerReceived (s : State) (h : s.phase = .headerReceived) :
    phaseStep s = stepHeaderReceived s := by
  simp only [phaseStep, h]

theorem phaseStep_exceptionDetected (s : State) (h : s.phase = .exceptionDetected) :
    phaseStep s = stepExceptionDetected s := by
  simp only [phaseStep, h]

theorem phaseStep_payloadReceived (s : State) (h : s.phase = .payloadReceived) :
    phaseStep s = stepPayloadReceived s := by
  simp only [phaseStep, h]

theorem phaseStep_validated (s : State) (h : s.phase = .validated) : phaseStep s = stepValidated s := by
  simp only [phaseStep, h]

/-- `Failed` and `Complete` hand over and end. -/
theorem runPhases_end (k : Nat) (s : State) (h : s.phase = .failed ∨ s.phase = .complete) :
    runPhases (k + 1) s = .next s.handOver := by
  have hn : s.phase ≠ .idle := by rcases h with h | h <;> simp [h]
  have ht : phaseStep s = .next s.handOver := by rcases h with h | h <;> simp only [phaseStep, h]
  rw [runPhases_next k s _ hn ht]
  exact runPhases_idle k _ rfl

/-- The state in which a header stands latched. -/
def State.withHeader (h : Header) (s : State) : State := { s.rxReadState 3 with hdr := h, phase := .headerReceived }

/-- The state in which a whole remainder stands in `RXBUF`. -/
def State.withRemainder (n : Nat) (s : State) : State :=
  { s.rxReadState n with
    rxbuf := headerBytes s.hdr ++ s.rxReadBytes n, rxlen := 3 + n, phase := .payloadReceived }

theorem finishExchange_shortHeader (s : State) (hp : s.phase = .sent) (hl : headerOf (s.rxReadBytes 3) = none) :
    finishExchange s = .next ((s.rxReadState 3).failExchange .communicationTimeout).handOver := by
  unfold finishExchange
  rw [runPhases_next 4 s _ (by simp [hp])
    (by rw [phaseStep_sent s hp, stepSent, hl])]
  exact runPhases_end _ _ (.inl (by simp))

theorem finishExchange_header (s : State) (h : Header) (hp : s.phase = .sent)
    (hl : headerOf (s.rxReadBytes 3) = some h) :
    finishExchange s = runPhases 4 (s.withHeader h) := by
  unfold finishExchange
  rw [runPhases_next 4 s _ (by simp [hp]) (by rw [phaseStep_sent s hp, stepSent, hl])]
  rfl

theorem run_exception (k : Nat) (s : State) (hp : s.phase = .headerReceived) (he : isException s.hdr = true) :
    runPhases (k + 3) s =
      .next (({ s with phase := .exceptionDetected }.rxReadState 2).failExchange
        (.protocolException s.hdr.third s.hdr.functionCode)).handOver := by
  rw [runPhases_next (k + 2) s { s with phase := .exceptionDetected } (by simp [hp])
    (by rw [phaseStep_headerReceived s hp, stepHeaderReceived, if_pos he])]
  rw [runPhases_next (k + 1) _ _ (by simp) (phaseStep_exceptionDetected _ rfl)]
  exact runPhases_end _ _ (.inl (by simp))

theorem run_shortRemainder (k : Nat) (s : State) (hp : s.phase = .headerReceived) (he : isException s.hdr = false)
    (hl : (s.rxReadBytes (remainderLength s.request s.hdr)).length < remainderLength s.request s.hdr) :
    runPhases (k + 2) s =
      .next ((s.rxReadState (remainderLength s.request s.hdr)).failExchange .communicationTimeout).handOver := by
  rw [runPhases_next (k + 1) s _ (by simp [hp])
    (by rw [phaseStep_headerReceived s hp, stepHeaderReceived, if_neg (by simp [he]), if_pos hl])]
  exact runPhases_end _ _ (.inl (by simp))

theorem run_remainder (k : Nat) (s : State) (hp : s.phase = .headerReceived) (he : isException s.hdr = false)
    (hl : ¬ (s.rxReadBytes (remainderLength s.request s.hdr)).length < remainderLength s.request s.hdr) :
    runPhases (k + 1) s = runPhases k (s.withRemainder (remainderLength s.request s.hdr)) := by
  rw [runPhases_next k s _ (by simp [hp])
    (by rw [phaseStep_headerReceived s hp, stepHeaderReceived, if_neg (by simp [he]), if_neg hl])]
  rfl

theorem run_badChecksum (k : Nat) (s : State) (hp : s.phase = .payloadReceived)
    (hv : verify (s.rxbuf.take s.rxlen) = false) :
    runPhases (k + 2) s =
      .next ((s.runVerify (s.rxbuf.take s.rxlen)).failExchange .crcMismatch).handOver := by
  rw [runPhases_next (k + 1) s _ (by simp [hp])
    (by rw [phaseStep_payloadReceived s hp, stepPayloadReceived, if_neg (by simp [hv])])]
  exact runPhases_end _ _ (.inl (by simp))

theorem run_goodChecksum (k : Nat) (s : State) (hp : s.phase = .payloadReceived)
    (hv : verify (s.rxbuf.take s.rxlen) = true) :
    runPhases (k + 1) s = runPhases k { s.runVerify (s.rxbuf.take s.rxlen) with phase := .validated } := by
  rw [runPhases_next k s _ (by simp [hp])
    (by rw [phaseStep_payloadReceived s hp, stepPayloadReceived, if_pos (by simp [hv])])]

theorem run_validatedRead (k : Nat) (s : State) (start count : Word) (ws : List Word) (hp : s.phase = .validated)
    (hr : s.request = .read start count) (hw : bytesToWords (strippedPayload s) = some ws)
    (hc : s.hdr.third.toNat = 2 * count.toNat) :
    runPhases (k + 2) s = .next ((s.latchWords ws).finish (.words ws)).handOver := by
  rw [runPhases_next (k + 1) s _ (by simp [hp])
    (by simp only [phaseStep_validated s hp, stepValidated, hr, hw, if_pos hc]; rfl)]
  exact runPhases_end _ _ (.inr rfl)

theorem run_validatedMismatch (k : Nat) (s : State) (start count : Word) (hp : s.phase = .validated)
    (hr : s.request = .read start count)
    (hc : bytesToWords (strippedPayload s) = none ∨ s.hdr.third.toNat ≠ 2 * count.toNat) :
    runPhases (k + 1) s = .refused .payloadLength := by
  refine runPhases_refused k s _ (by simp [hp]) ?_
  rw [phaseStep_validated s hp, stepValidated]
  rcases hb : bytesToWords (strippedPayload s) with _ | ws
  · simp [hr]
  · have := hc.resolve_left (by simp [hb])
    simp [hr, this]

theorem run_validatedWrite (k : Nat) (s : State) (a v : Word) (hp : s.phase = .validated)
    (hr : s.request = .write a v) :
    runPhases (k + 2) s = .next (s.finish .nothing).handOver := by
  rw [runPhases_next (k + 1) s _ (by simp [hp])
    (by simp only [phaseStep_validated s hp, stepValidated, hr]; rfl)]
  exact runPhases_end _ _ (.inr rfl)

/-! ### What every exchange leaves alone -/

/-- An exchange leaves the configuration registers, `CONNECTED`, the host's inputs, the request and the sent bytes alone. -/
structure Untouched (s t : State) : Prop where
  deviceId  : t.cfgDeviceId = s.cfgDeviceId
  baud      : t.cfgBaud = s.cfgBaud
  timeout   : t.cfgTimeout = s.cfgTimeout
  settle    : t.cfgSettle = s.cfgSettle
  connected : t.connected = s.connected
  inputs    : t.inputs = s.inputs
  link      : t.env.link = s.env.link
  opens     : t.env.opens = s.env.opens

theorem Untouched.refl (s : State) : Untouched s s := ⟨rfl, rfl, rfl, rfl, rfl, rfl, rfl, rfl⟩

theorem Untouched.trans {s t u : State} (h : Untouched s t) (k : Untouched t u) : Untouched s u :=
  ⟨k.deviceId.trans h.deviceId, k.baud.trans h.baud, k.timeout.trans h.timeout, k.settle.trans h.settle,
   k.connected.trans h.connected, k.inputs.trans h.inputs, k.link.trans h.link, k.opens.trans h.opens⟩

/-- One transition leaves them alone, and the request and the sent bytes as well. -/
theorem phaseStep_untouched (s t : State) (h : phaseStep s = .next t) :
    Untouched s t ∧ t.request = s.request ∧ t.env.tx = s.env.tx := by
  unfold phaseStep at h
  split at h
  · cases h; exact ⟨.refl _, rfl, rfl⟩
  · unfold stepSent at h
    split at h <;> cases h <;> exact ⟨⟨by simp, by simp, by simp, by simp, by simp, by simp, by simp, by simp⟩, by simp, by simp⟩
  · unfold stepHeaderReceived at h
    simp only at h
    split at h
    · cases h; exact ⟨⟨rfl, rfl, rfl, rfl, rfl, rfl, rfl, rfl⟩, rfl, rfl⟩
    · split at h <;> cases h <;>
        exact ⟨⟨by simp, by simp, by simp, by simp, by simp, by simp, by simp, by simp⟩, by simp, by simp⟩
  · unfold stepExceptionDetected at h
    cases h; exact ⟨⟨by simp, by simp, by simp, by simp, by simp, by simp, by simp, by simp⟩, by simp, by simp⟩
  · unfold stepPayloadReceived at h
    simp only at h
    split at h <;> cases h <;>
      exact ⟨⟨by simp, by simp, by simp, by simp, by simp, by simp, by simp, by simp⟩, by simp, by simp⟩
  · unfold stepValidated at h
    split at h
    · split at h
      · split at h
        · cases h; exact ⟨⟨rfl, rfl, rfl, rfl, rfl, rfl, rfl, rfl⟩, rfl, rfl⟩
        · cases h
      · cases h
    · cases h; exact ⟨⟨rfl, rfl, rfl, rfl, rfl, rfl, rfl, rfl⟩, rfl, rfl⟩
  · cases h; exact ⟨⟨rfl, rfl, rfl, rfl, rfl, rfl, rfl, rfl⟩, rfl, rfl⟩
  · cases h; exact ⟨⟨rfl, rfl, rfl, rfl, rfl, rfl, rfl, rfl⟩, rfl, rfl⟩

/-- An exchange run to its end leaves them alone. -/
theorem runPhases_untouched (k : Nat) (s t : State) (h : runPhases k s = .next t) :
    Untouched s t ∧ t.request = s.request ∧ t.env.tx = s.env.tx := by
  induction k generalizing s with
  | zero => cases h; exact ⟨.refl _, rfl, rfl⟩
  | succ k ih =>
    unfold runPhases at h
    split at h
    · cases h; exact ⟨.refl _, rfl, rfl⟩
    · split at h
      · rename_i u hu
        obtain ⟨hf, hr, hx⟩ := phaseStep_untouched s u hu
        obtain ⟨hf', hr', hx'⟩ := ih u h
        exact ⟨hf.trans hf', hr'.trans hr, hx'.trans hx⟩
      · cases h
      · cases h

/-- The gates before a request: what is left when they all pass, and what they answer when one does not. -/
theorem sendGated_next (d : Byte) (s t : State) (go : Out) (h : sendGated d s go = .next t) :
    (s.connected = false ∧ t = s.raise .notConnected) ∨
      (s.connected = true ∧ s.phase = .idle ∧ deviceIdOk d = true ∧ go = .next t) := by
  unfold sendGated at h
  split at h
  · rename_i hc; cases h; exact .inl ⟨hc, rfl⟩
  · split at h
    · cases h
    · split at h
      · cases h
      · rename_i hc hp hd
        exact .inr ⟨by simpa using hc, by simpa using hp, by simpa using hd, h⟩

theorem sendGated_ready (s : State) (go : Out) (h : s.connected = true) (hp : s.phase = .idle) (d : Byte)
    (hd : deviceIdOk d = true) : sendGated d s go = go := by
  simp [sendGated, h, hp, hd]

theorem transact_ready (r : Request) (s : State) (h : s.connected = true) (hp : s.phase = .idle)
    (hd : deviceIdOk s.cfgDeviceId = true) :
    transact r s = finishExchange (s.sendRequest s.cfgDeviceId r) := by
  rw [transact, sendGated_ready s _ h hp _ hd]

theorem transact_notConnected (r : Request) (s : State) (h : s.connected = false) :
    transact r s = .next (s.raise .notConnected) := by
  simp [transact, sendGated, h]

/-- A whole exchange leaves the lasting registers alone. -/
theorem transact_untouched (r : Request) (s t : State) (h : transact r s = .next t) : Untouched s t := by
  rcases sendGated_next _ s t _ h with ⟨_, rfl⟩ | ⟨_, _, _, hg⟩
  · exact ⟨by simp, by simp, by simp, by simp, by simp, by simp, by simp, by simp⟩
  · have hf := (runPhases_untouched 5 _ t hg).1
    have hs : Untouched s (s.sendRequest s.cfgDeviceId r) := ⟨rfl, rfl, rfl, rfl, rfl, rfl, rfl, rfl⟩
    exact hs.trans hf

end Sys2Proof.Machine
end

