-- ==== Sys2Proof/Laws/Exchange.lean ====
section
/-! SUPPORT. The seven ends of an exchange, each as one next state (or refusal) of the sent state, and the tests they rest on. -/

namespace Sys2Proof.Machine

theorem isException_eq_true_iff (h : Header) : isException h = true ↔ h.functionCode &&& 0x80 ≠ 0 :=
  getLsbD_seven_iff h.functionCode

theorem isException_eq_false_iff (h : Header) : isException h = false ↔ h.functionCode &&& 0x80 = 0 := by
  rw [← Bool.not_eq_true, isException_eq_true_iff, not_not]

theorem verifyMessage_append (m : List Byte) (a b : Byte) : verifyMessage (m ++ [a, b]) = m := by
  simp [verifyMessage]

/-- From three bytes on, verifying compares the checksum with the last two bytes (R134). -/
theorem verify_append (m : List Byte) (a b : Byte) (h : m ≠ []) :
    verify (m ++ [a, b]) = decide (crc16 m = fromLe16 a b) := by
  have hl : ¬ (m ++ [a, b]).length < 3 := by cases m <;> simp at *
  simp only [verify, if_neg hl, verifyMessage, verifyReceived]
  simp only [List.length_append, List.length_cons, List.length_nil, zero_add, Nat.reduceAdd, Nat.add_sub_cancel,
    List.take_left', List.getD_eq_getElem?_getD]
  simp
  rfl

theorem runVerify_append (s : State) (m : List Byte) (a b : Byte) (h : m ≠ []) :
    s.runVerify (m ++ [a, b]) = { s with acc := crc16 m, verifyOk := decide (crc16 m = fromLe16 a b) } := by
  have hl : ¬ (m ++ [a, b]).length < 3 := by cases m <;> simp at *
  rw [State.runVerify, if_neg hl, verify_append m a b h, verifyMessage_append]
  rfl

/-- A transactional operation may run exactly where the three gates pass. -/
theorem ready_iff (s : State) :
    s.ready = true ↔ s.connected = true ∧ s.phase = .idle ∧ deviceIdOk s.cfgDeviceId = true := by
  simp [State.ready, and_assoc]

theorem transact_of_ready (r : Request) (s : State) (h : s.ready = true) :
    transact r s = finishExchange (s.sendRequest s.cfgDeviceId r) := by
  obtain ⟨h1, h2, h3⟩ := (ready_iff s).mp h
  exact transact_ready r s h1 h2 h3

theorem exec_exchange (i : Instr) (r : Request) (s : State) (h : IsExchange i r) (hr : s.ready = true) :
    exec i s = finishExchange (s.sendRequest s.cfgDeviceId r) := by
  rcases h with ⟨a, n, rfl, rfl⟩ | ⟨a, n, rfl, rfl⟩ <;> exact transact_of_ready _ s hr

/-! ### The ends -/

/-- A read does not look at `HDR` or `PHASE`. -/
theorem rxReadState_withHeader (s : State) (h : Header) (p : Phase) (n : Nat) :
    ({ s with hdr := h, phase := p } : State).rxReadState n = { s.rxReadState n with hdr := h, phase := p } := by
  unfold State.rxReadState State.dropBurst
  simp only
  split <;> rfl

/-- Fewer than three header bytes (R152). -/
theorem exchange_shortHeader (s : State) (hp : s.phase = .sent) (hl : (s.rxReadBytes 3).length < 3) :
    finishExchange s = .next { s.rxReadState 3 with
      status := .communicationTimeout, phase := .idle
      res := Config.freeResult (s.rxReadState 3).free, free := (s.rxReadState 3).free + 1 } :=
  finishExchange_shortHeader s hp (headerOf_eq_none _ hl)

/-- Bit 7 of the function code set (R153, R154). -/
theorem exchange_exception (s : State) (h : Header) (hp : s.phase = .sent) (hh : s.rxReadBytes 3 = headerBytes h)
    (he : h.functionCode &&& 0x80 ≠ 0) :
    finishExchange s = .next { (s.rxReadState 3).rxReadState 2 with
      hdr := h, excCode := h.third, excFc := h.functionCode, status := .protocolException, phase := .idle
      res := Config.freeResult ((s.rxReadState 3).rxReadState 2).free
      free := ((s.rxReadState 3).rxReadState 2).free + 1 } := by
  rw [finishExchange_header s h hp ((headerOf_eq_some _ _).mpr hh),
    run_exception 1 (s.withHeader h) rfl ((isException_eq_true_iff h).mpr he)]
  unfold State.withHeader
  simp only [rxReadState_withHeader]
  rfl

/-- A remainder that is too short (R155, R160). -/
theorem exchange_shortRemainder (s : State) (h : Header) (n : Nat) (hp : s.phase = .sent)
    (hh : s.rxReadBytes 3 = headerBytes h) (he : h.functionCode &&& 0x80 = 0) (hn : remainderLength s.request h = n)
    (hl : ((s.rxReadState 3).rxReadBytes n).length < n) :
    finishExchange s = .next { (s.rxReadState 3).rxReadState n with
      hdr := h, status := .communicationTimeout, phase := .idle
      res := Config.freeResult ((s.rxReadState 3).rxReadState n).free
      free := ((s.rxReadState 3).rxReadState n).free + 1 } := by
  have hr : remainderLength (s.withHeader h).request (s.withHeader h).hdr = n := by
    rw [← hn]; simp [State.withHeader]
  rw [finishExchange_header s h hp ((headerOf_eq_some _ _).mpr hh),
    run_shortRemainder 2 (s.withHeader h) rfl ((isException_eq_false_iff h).mpr he) (by rw [hr]; exact hl), hr]
  unfold State.withHeader
  rw [rxReadState_withHeader]
  rfl

/-- A whole remainder stands in `RXBUF` (R155, R160). -/
theorem exchange_remainder (s : State) (h : Header) (n : Nat) (bs : List Byte) (hp : s.phase = .sent)
    (hh : s.rxReadBytes 3 = headerBytes h) (he : h.functionCode &&& 0x80 = 0) (hn : remainderLength s.request h = n)
    (hb : (s.rxReadState 3).rxReadBytes n = bs) (hl : bs.length = n) :
    finishExchange s = runPhases 3 { (s.rxReadState 3).rxReadState n with
      hdr := h, rxbuf := headerBytes h ++ bs, rxlen := 3 + n, phase := .payloadReceived } := by
  have hr : remainderLength (s.withHeader h).request (s.withHeader h).hdr = n := by
    rw [← hn]; simp [State.withHeader]
  have hb' : (s.withHeader h).rxReadBytes n = bs := hb
  rw [finishExchange_header s h hp ((headerOf_eq_some _ _).mpr hh),
    run_remainder 3 (s.withHeader h) rfl ((isException_eq_false_iff h).mpr he) (by rw [hr, hb', hl]; exact lt_irrefl n), hr,
    State.withRemainder, hb']
  unfold State.withHeader
  rw [rxReadState_withHeader]

/-- Validation of a whole remainder `data ++ [c0, c1]` (R156). -/
theorem run_validation (k : Nat) (s : State) (h : Header) (data : List Byte) (c0 c1 : Byte)
    (hp : s.phase = .payloadReceived) (hb : s.rxbuf = headerBytes h ++ (data ++ [c0, c1]))
    (hl : s.rxlen = 3 + (data.length + 2)) :
    runPhases (k + 2) s =
      if crc16 (headerBytes h ++ data) = fromLe16 c0 c1 then
        runPhases (k + 1) { s with acc := crc16 (headerBytes h ++ data), verifyOk := true, phase := .validated }
      else .next ({ s with acc := crc16 (headerBytes h ++ data), verifyOk := false }.failExchange .crcMismatch).handOver := by
  have ht : s.rxbuf.take s.rxlen = (headerBytes h ++ data) ++ [c0, c1] := by
    rw [hb, hl, ← List.append_assoc]
    apply List.take_of_length_le
    simp
  have hm : headerBytes h ++ data ≠ [] := by simp [headerBytes]
  split
  · rename_i hc
    rw [run_goodChecksum (k + 1) s hp (by rw [ht, verify_append _ _ _ hm]; simpa using hc), ht,
      runVerify_append _ _ _ _ hm, decide_eq_true hc]
  · rename_i hc
    rw [run_badChecksum k s hp (by rw [ht, verify_append _ _ _ hm]; simpa using hc), ht,
      runVerify_append _ _ _ _ hm, decide_eq_false hc]

/-- A whole response received: what the ends that follow have in common. -/
structure Received (s : State) (h : Header) (data : List Byte) (c0 c1 : Byte) : Prop where
  phase     : s.phase = .sent
  header    : s.rxReadBytes 3 = headerBytes h
  normal    : h.functionCode &&& 0x80 = 0
  length    : remainderLength s.request h = data.length + 2
  remainder : (s.rxReadState 3).rxReadBytes (data.length + 2) = data ++ [c0, c1]

/-- A wrong checksum (R156, R160). -/
theorem exchange_badChecksum (s : State) (h : Header) (data : List Byte) (c0 c1 : Byte)
    (g : Received s h data c0 c1) (hc : crc16 (headerBytes h ++ data) ≠ fromLe16 c0 c1) :
    finishExchange s = .next { (s.rxReadState 3).rxReadState (data.length + 2) with
      hdr := h, rxbuf := headerBytes h ++ (data ++ [c0, c1]), rxlen := 3 + (data.length + 2)
      acc := crc16 (headerBytes h ++ data), verifyOk := false
      status := .crcMismatch, phase := .idle
      res := Config.freeResult ((s.rxReadState 3).rxReadState (data.length + 2)).free
      free := ((s.rxReadState 3).rxReadState (data.length + 2)).free + 1 } := by
  rw [exchange_remainder s h _ _ g.phase g.header g.normal g.length g.remainder (by simp),
    run_validation 1 _ h data c0 c1 rfl rfl rfl, if_neg hc]
  rfl

theorem exchange_validated (s : State) (h : Header) (data : List Byte) (c0 c1 : Byte)
    (g : Received s h data c0 c1) (hc : crc16 (headerBytes h ++ data) = fromLe16 c0 c1) :
    finishExchange s = runPhases 2 { (s.rxReadState 3).rxReadState (data.length + 2) with
      hdr := h, rxbuf := headerBytes h ++ (data ++ [c0, c1]), rxlen := 3 + (data.length + 2)
      acc := crc16 (headerBytes h ++ data), verifyOk := true, phase := .validated } := by
  rw [exchange_remainder s h _ _ g.phase g.header g.normal g.length g.remainder (by simp),
    run_validation 1 _ h data c0 c1 rfl rfl rfl, if_pos hc]

theorem payload_of_frame (h : Header) (data t : List Byte) (n : Nat) (hn : n = data.length) :
    ((headerBytes h ++ (data ++ t)).drop 3).take n = data := by
  rw [hn]; simp [headerBytes]

/-- A read response of the requested length, accepted (R157, R158, R175). -/
theorem exchange_read (s : State) (h : Header) (ws : List Word) (c0 c1 : Byte) (start count : Word)
    (g : Received s h (wordsToBytes ws) c0 c1) (hc : crc16 (headerBytes h ++ wordsToBytes ws) = fromLe16 c0 c1)
    (hr : s.request = .read start count) (hn : ws.length = count.toNat) :
    finishExchange s = .next { (s.rxReadState 3).rxReadState (2 * ws.length + 2) with
      hdr := h, rxbuf := headerBytes h ++ (wordsToBytes ws ++ [c0, c1]), rxlen := 5 + 2 * ws.length
      acc := crc16 (headerBytes h ++ wordsToBytes ws), verifyOk := true
      w := ws, wcnt := ws.length, res := .words ws, status := .ok, phase := .idle } := by
  have hlen : h.third.toNat = (wordsToBytes ws).length := by
    have := g.length
    simp only [remainderLength, hr] at this; omega
  rw [exchange_validated s h _ c0 c1 g hc,
    run_validatedRead 0 _ start count ws rfl (by simpa using hr)
      (by
        change bytesToWords (((headerBytes h ++ (wordsToBytes ws ++ [c0, c1])).drop 3).take h.third.toNat) = some ws
        rw [payload_of_frame _ _ _ _ hlen, bytesToWords_wordsToBytes])
      (by
        change h.third.toNat = 2 * count.toNat
        rw [hlen, length_wordsToBytes, hn])]
  simp only [length_wordsToBytes, show 3 + (2 * ws.length + 2) = 5 + 2 * ws.length by omega]
  rfl

/-- A validated read response of another length has no result (R159). -/
theorem exchange_lengthMismatch (s : State) (h : Header) (data : List Byte) (c0 c1 : Byte) (start count : Word)
    (g : Received s h data c0 c1) (hc : crc16 (headerBytes h ++ data) = fromLe16 c0 c1)
    (hr : s.request = .read start count) (hn : data.length ≠ 2 * count.toNat) :
    finishExchange s = .refused .payloadLength := by
  have hlen : h.third.toNat = data.length := by
    have := g.length
    simp only [remainderLength, hr] at this; omega
  rw [exchange_validated s h _ c0 c1 g hc,
    run_validatedMismatch 1 _ start count rfl (by simpa using hr) (.inr (by
      change h.third.toNat ≠ 2 * count.toNat
      rw [hlen]; exact hn))]

/-- A write response with a right checksum, accepted whatever it echoes (R160, R176). -/
theorem exchange_write (s : State) (h : Header) (data : List Byte) (c0 c1 : Byte) (a v : Word)
    (g : Received s h data c0 c1) (hc : crc16 (headerBytes h ++ data) = fromLe16 c0 c1)
    (hr : s.request = .write a v) :
    finishExchange s = .next { (s.rxReadState 3).rxReadState (data.length + 2) with
      hdr := h, rxbuf := headerBytes h ++ (data ++ [c0, c1]), rxlen := 3 + (data.length + 2)
      acc := crc16 (headerBytes h ++ data), verifyOk := true
      res := .nothing, status := .ok, phase := .idle } := by
  rw [exchange_validated s h _ c0 c1 g hc, run_validatedWrite 0 _ a v rfl (by simpa using hr)]
  rfl

/-- The ways a response can come in: the six cases are all there are, and they depend on the input alone. -/
theorem response_cases (s : State) (hp : s.phase = .sent) :
    (s.rxReadBytes 3).length < 3 ∨
    (∃ h : Header, s.rxReadBytes 3 = headerBytes h ∧ h.functionCode &&& 0x80 ≠ 0) ∨
    (∃ h : Header, s.rxReadBytes 3 = headerBytes h ∧ h.functionCode &&& 0x80 = 0 ∧
      ((s.rxReadState 3).rxReadBytes (remainderLength s.request h)).length < remainderLength s.request h) ∨
    ∃ h data c0 c1, Received s h data c0 c1 := by
  by_cases hl : (s.rxReadBytes 3).length < 3
  · exact .inl hl
  have h3 : (s.rxReadBytes 3).length = 3 := by have := length_rxReadBytes_le 3 s; omega
  obtain ⟨a, b, c, habc⟩ := List.length_eq_three.mp h3
  have hh : s.rxReadBytes 3 = headerBytes ⟨a, b, c⟩ := habc
  by_cases he : b &&& 0x80 = 0
  · by_cases hs : ((s.rxReadState 3).rxReadBytes (remainderLength s.request ⟨a, b, c⟩)).length <
        remainderLength s.request ⟨a, b, c⟩
    · exact .inr (.inr (.inl ⟨_, hh, he, hs⟩))
    have hge : 2 ≤ remainderLength s.request ⟨a, b, c⟩ := by cases s.request <;> simp [remainderLength]
    have hle := length_rxReadBytes_le (remainderLength s.request ⟨a, b, c⟩) (s.rxReadState 3)
    generalize hn : remainderLength s.request ⟨a, b, c⟩ = n at *
    obtain ⟨data, q, hd, hq⟩ : ∃ p q, (s.rxReadState 3).rxReadBytes n = p ++ q ∧ q.length = 2 :=
      ⟨_, _, (List.take_append_drop (n - 2) _).symm, by rw [List.length_drop]; omega⟩
    obtain ⟨c0, c1, rfl⟩ := List.length_eq_two.mp hq
    have hdl : n = data.length + 2 := by
      rw [hd] at hs hle
      simp only [List.length_append, List.length_cons, List.length_nil] at hs hle
      omega
    subst hdl
    exact .inr (.inr (.inr ⟨_, data, c0, c1, hp, hh, he, hn, hd⟩))
  · exact .inr (.inl ⟨_, hh, he⟩)

end Sys2Proof.Machine
end

