-- ==== Sys2Proof/Laws/Ops.lean ====
section
/-! SUPPORT. What each shared operation can do, said once: raising, reading, receiving, sending, and the combinators over an exchange. -/

namespace Sys2Proof.Machine

/-- Everything an error without information does (R261). -/
theorem raise_eq (e : ErrorKind) (s : State) (h : ∀ c f, e ≠ .protocolException c f) :
    s.raise e = { s with status := errorStatus e, res := Config.freeResult s.free, free := s.free + 1 } := by
  cases e with
  | protocolException c f => exact absurd rfl (h c f)
  | connectionFailure => rfl
  | notConnected => rfl
  | communicationTimeout => rfl
  | crcMismatch => rfl

/-- A read changes the input stream, the script of arrivals and the free-value counter alone (R71). -/
theorem rxReadState_eq (n : Nat) (s : State) :
    s.rxReadState n = { s with
      env := { s.env with rxq := (s.rxReadState n).env.rxq, bursts := (s.rxReadState n).env.bursts }
      free := (s.rxReadState n).free } := by
  unfold State.rxReadState State.dropBurst
  cases s.env.bursts <;> rfl

/-- A read where the script names the arrival. -/
theorem rxReadState_scripted (n : Nat) (s : State) (b : List Byte) (more : List (List Byte))
    (h : s.env.bursts = b :: more) :
    s.rxReadState n = { s with env := { s.env with rxq := (s.env.rxq ++ b).drop n, bursts := more } } := by
  simp [State.rxReadState, State.dropBurst, State.available, State.nextBurst, h]

theorem rxReadBytes_scripted (n : Nat) (s : State) (b : List Byte) (more : List (List Byte))
    (h : s.env.bursts = b :: more) : s.rxReadBytes n = (s.env.rxq ++ b).take n := by
  simp [State.rxReadBytes, State.available, State.nextBurst, h]

/-- What is buffered already is read first (R71). -/
theorem rxReadBytes_buffered (n : Nat) (s : State) (h : n ≤ s.env.rxq.length) :
    s.rxReadBytes n = s.env.rxq.take n := by
  rw [State.rxReadBytes, State.available, List.take_append_of_le_length h]

theorem rxq_rxReadState_buffered (n : Nat) (s : State) (h : n ≤ s.env.rxq.length) :
    (s.rxReadState n).env.rxq = s.env.rxq.drop n ++ s.nextBurst := by
  change (s.available).drop n = _
  rw [State.available, List.drop_append_of_le_length h]

/-- A whole frame that arrives on an empty stream is a whole response. -/
theorem received_of_arrival (s : State) (h : Header) (data : List Byte) (c0 c1 : Byte) (hp : s.phase = .sent)
    (hq : s.env.rxq = []) (he : h.functionCode &&& 0x80 = 0)
    (hl : remainderLength s.request h = data.length + 2) :
    Received (s.receiveBytes (headerBytes h ++ (data ++ [c0, c1]))) h data c0 c1 := by
  have hb : (s.receiveBytes (headerBytes h ++ (data ++ [c0, c1]))).env.rxq = headerBytes h ++ (data ++ [c0, c1]) := by
    simp [State.receiveBytes, hq]
  generalize hu : s.receiveBytes (headerBytes h ++ (data ++ [c0, c1])) = u at *
  have h3 : (3 : Nat) ≤ u.env.rxq.length := by rw [hb]; simp
  refine ⟨by rw [← hu]; exact hp, ?_, he, by rw [← hu]; exact hl, ?_⟩
  · rw [rxReadBytes_buffered 3 u h3, hb]; simp [headerBytes]
  · have hr : (u.rxReadState 3).env.rxq = (data ++ [c0, c1]) ++ u.nextBurst := by
      rw [rxq_rxReadState_buffered 3 u h3, hb]; simp [headerBytes]
    rw [rxReadBytes_buffered _ _ (by rw [hr]; simp), hr, List.take_left' (by simp)]

theorem arrive_connected (bs : List Byte) (s : State) (h : s.connected = true) :
    arrive bs s = finishExchange (s.receiveBytes bs) := by
  simp [arrive, h]

theorem arrive_notConnected (bs : List Byte) (s : State) (h : s.connected = false) : arrive bs s = .next s := by
  simp [arrive, h]

/-- A response frame is the arrival of its bytes (R93 to R95). -/
theorem exec_response (i : Instr) (s : State) (h : i.port = .readResponse ∨ i.port = .writeResponse) :
    exec i s = arrive (encode i) s := by
  cases i <;> simp [Instr.port] at h <;> rfl

/-- A request frame with its own checksum is sent where the gates pass, to the device it names (R171; log 29). -/
theorem exec_requestInstr (d : Byte) (r : Request) (s : State) (h : s.connected = true) (hp : s.phase = .idle)
    (hd : deviceIdOk d = true) : exec (requestInstr d r) s = .next (s.sendRequest d r) := by
  cases r <;> exact (sendGated_ready s _ h hp d hd).trans (if_pos rfl)

theorem length_freeWordFile_le (s : State) : s.freeWordFile.length ≤ wordFileCapacity := List.length_take_le _ _

/-- Everything WORDS can do when it answers a next state (R158; log 16): some words that `W` has room for, which are the
payload's where these fit. -/
theorem execWords_next (p : List Byte) (s t : State) (h : execWords p s = .next t) :
    ∃ ws n, ws.length ≤ wordFileCapacity ∧
      t = { s with w := ws, wcnt := ws.length, res := .words ws, status := .ok, free := n } ∧
      (p.length ≤ 2 * wordFileCapacity → bytesToWords p = some ws ∧ n = s.free) := by
  unfold execWords at h
  split at h
  · cases h
  · rename_i ws hw
    have hl : 2 * ws.length = p.length := by rw [(bytesToWords_eq_some p ws).mp hw]; simp
    split at h <;> cases h
    · exact ⟨ws, s.free, ‹_›, rfl, fun _ => ⟨hw, rfl⟩⟩
    · exact ⟨_, s.free + 1, length_freeWordFile_le s, rfl, fun hp => by omega⟩

theorem frame8_toList (d f : Byte) (x y : Word) :
    (frame8 d f x y).toList = reqBytes d f x y (crc16 (frame6 d f x y)) := by
  simp [frame8, reqBytes, frame6, le16]

/-- An operation over a successful exchange: it went on from it, or handed its error on. -/
theorem onSuccess_next (o : Out) (k : State → Out) (t : State) (h : onSuccess o k = .next t) :
    (∃ u, o = .next u ∧ u.status = .ok ∧ k u = .next t) ∨ (o = .next t ∧ t.status ≠ .ok) := by
  unfold onSuccess at h
  split at h
  · split at h
    · exact .inl ⟨_, rfl, ‹_›, h⟩
    · cases h; exact .inr ⟨rfl, ‹_›⟩
  · cases h
  · cases h

/-- One attempt of RDINFO is one exchange (R232). -/
theorem attempt_next (start count : Word) (s t : State) (block : Option (List Word))
    (h : attempt start count s = .next (block, t)) :
    transact (.read start count) s = .next t ∧ block = if t.status = .ok then some t.w else none := by
  unfold attempt at h
  split at h
  · rename_i u hu
    simp only [Host.Outcome.next.injEq, Prod.mk.injEq] at h
    obtain ⟨hb, rfl⟩ := h
    exact ⟨hu, hb.symm⟩
  · cases h
  · cases h

/-- An attempt is refused exactly where its exchange is (R232). -/
theorem attempt_refused_iff (start count : Word) (s : State) (r : Refusal) :
    attempt start count s = .refused r ↔ transact (.read start count) s = .refused r := by
  unfold attempt
  split <;> simp_all

/-- RDINFO that answers a next state made its three attempts in order (R232). -/
theorem readDeviceInfo_next (hw sw : Fin 4) (s t : State) (hc : s.connected = true)
    (h : readDeviceInfo hw sw s = .next t) :
    ∃ m s1 n s2 v s3, attempt aModel nModel s = .next (m, s1) ∧ attempt aSerial nSerial s1 = .next (n, s2) ∧
      attempt aVer nVer s2 = .next (v, s3) ∧ t = finishInfo hw sw m n v s3 := by
  unfold readDeviceInfo at h
  simp only [hc, Bool.true_eq_false, if_false] at h
  split at h
  · cases h
  · cases h
  · split at h
    · cases h
    · cases h
    · split at h
      · cases h
      · cases h
      · cases h
        exact ⟨_, _, _, _, _, _, by assumption, by assumption, by assumption, rfl⟩

/-- RDRT's span is the real-time block (R195, R231). -/
theorem execRdrt_eq (s : State) :
    execRdrt s = onSuccess (transact (.read 0x0100 11) s) fun t =>
      match assembleRealtime t.w with
      | some r => .next (t.finish (.reading r))
      | none => .refused .blockLength := rfl

end Sys2Proof.Machine
end

