-- ==== Sys2Proof/Laws/PerInstr.lean ====
section
/-! SUPPORT. Per instruction: decoding the bytes of a well-formed instruction, at its port, gives the instruction back. -/

namespace Sys2Proof.Laws.RoundTrip

open Sys2Proof.Machine

/-- The round trip of one instruction. -/
def Statement (i : Instr) : Prop := i.wf = true → decode i.port (encode i) = .ok i

theorem crc16 (m : List Byte) : Statement (.crc16 m) := fun _ => rfl

theorem verify (buf : List Byte) : Statement (.verify buf) := fun _ => rfl

theorem bldrd (d f : Byte) (a n : Word) : Statement (.bldrd d f a n) := fun _ => by
  simp [decode, Instr.port, encode, decodeCommand, decodeOperation, be16]

theorem bldwr (d : Byte) (a v : Word) : Statement (.bldwr d a v) := fun _ => by
  simp [decode, Instr.port, encode, decodeCommand, decodeOperation, be16]

theorem parsehdr (h : List Byte) : Statement (.parsehdr h) := fun _ => rfl

theorem words (p : List Byte) : Statement (.words p) := fun _ => rfl

theorem connect : Statement .connect := fun _ => rfl

theorem disconnect : Statement .disconnect := fun _ => rfl

theorem rdregs (a n : Word) : Statement (.rdregs a n) := fun _ => by
  simp [decode, Instr.port, encode, decodeCommand, decodeOperation, be16]

theorem wrreg (a v : Word) : Statement (.wrreg a v) := fun _ => by
  simp [decode, Instr.port, encode, decodeCommand, decodeOperation, be16]

theorem rmlookup (i : Word) : Statement (.rmlookup i) := fun _ => by
  simp [decode, Instr.port, encode, decodeCommand, decodeOperation, be16]

theorem rmspan (g : Group) : Statement (.rmspan g) := fun _ => by cases g <;> rfl

theorem cvtscale (r : Word) (k : Byte) : Statement (.cvtscale r k) := fun _ => by
  simp [decode, Instr.port, encode, decodeCommand, decodeOperation, be16]

theorem cvttemp (r : Word) : Statement (.cvttemp r) := fun _ => by
  simp [decode, Instr.port, encode, decodeCommand, decodeOperation, be16]

theorem cvtflag (r : Word) : Statement (.cvtflag r) := fun _ => by
  simp [decode, Instr.port, encode, decodeCommand, decodeOperation, be16]

theorem cvtascii (ws : List Word) : Statement (.cvtascii ws) := fun _ => by
  simp [decode, Instr.port, encode, decodeCommand, decodeOperation, wordsOperand]

theorem cvtver (r : Word) : Statement (.cvtver r) := fun _ => by
  simp [decode, Instr.port, encode, decodeCommand, decodeOperation, be16]

theorem asmrt (ws : List Word) : Statement (.asmrt ws) := fun _ => by
  simp [decode, Instr.port, encode, decodeCommand, decodeOperation, wordsOperand]

theorem rdrt : Statement .rdrt := fun _ => rfl

theorem rdinfo : Statement .rdinfo := fun _ => rfl

theorem setload (on : Bool) : Statement (.setload on) := fun _ => by cases on <;> rfl

theorem getload : Statement .getload := fun _ => rfl

theorem reqRead (d : Byte) (a n c : Word) : Statement (.reqRead d a n c) := fun _ => by
  simp [decode, Instr.port, encode, decodeRequest, reqBytes, frame6, le16]

theorem reqWrite (d : Byte) (a v c : Word) : Statement (.reqWrite d a v c) := fun _ => by
  have h : fcWrite ≠ fcRead := by decide
  simp [decode, Instr.port, encode, decodeRequest, reqBytes, frame6, le16, h]

theorem rspRead (d f : Byte) (data : List Byte) (c : Word) : Statement (.rspRead d f data c) := fun hw => by
  simp only [Instr.wf, Bool.and_eq_true, Bool.not_eq_true', decide_eq_true_eq] at hw
  have hl : (BitVec.ofNat 8 data.length).toNat = data.length := by simp; omega
  have h7 : f[7] = false := by simpa using hw.1
  simp [decode, Instr.port, encode, decodeReadResponse, rspReadBytes, h7, decodeReadData, hl, le16]

theorem rspWrite (d f : Byte) (a v c : Word) : Statement (.rspWrite d f a v c) := fun hw => by
  simp only [Instr.wf, Bool.not_eq_true'] at hw
  have h7 : f[7] = false := by simpa using hw
  simp [decode, Instr.port, encode, decodeWriteResponse, rspWriteBytes, h7]

theorem rspExc (d f code : Byte) (c : Word) : Statement (.rspExc d f code c) := fun hw => by
  simp only [Instr.wf] at hw
  have h7 : f[7] = true := by simpa using hw
  simp [decode, Instr.port, encode, decodeReadResponse, rspExcBytes, h7, decodeException]

end Sys2Proof.Laws.RoundTrip
end

