-- ==== Sys2Proof/Laws/RegisterMap.lean ====
section
/-! SUPPORT. The register map: OPEN entries meet their conditions, a group's list is the map restricted to the group, and the index table
holds the map's entries. -/

namespace Sys2Proof.Machine

theorem openEntries_ok : openEntriesOk openEntries = true := by
  unfold openEntries
  split
  · assumption
  · decide

/-- An OPEN entry is in one of the two open groups (R196). -/
theorem openEntries_group (e : RegDef) (he : e ∈ openEntries) : e.group = .dailyStats ∨ e.group = .historicalStats := by
  have h := openEntries_ok
  simp only [openEntriesOk, Bool.and_eq_true, List.all_eq_true] at h
  have h1 := h.1.1 e he
  simp only [openEntryOk, Bool.and_eq_true, Bool.or_eq_true, beq_iff_eq] at h1
  exact h1.1

theorem openEntries_filter_eq_nil (g : Group) (h1 : g ≠ .dailyStats) (h2 : g ≠ .historicalStats) :
    openEntries.filter (·.group == g) = [] := by
  rw [List.filter_eq_nil_iff]
  intro e he hg
  have hg : e.group = g := by simpa using hg
  rcases openEntries_group e he with h | h
  · exact h1 (hg ▸ h)
  · exact h2 (hg ▸ h)

/-- A group's entries are the map's entries in that group, in order (R191). -/
theorem groupEntries_eq_filter (g : Group) : groupEntries g = regMap.filter (·.group == g) := by
  unfold regMap
  simp only [List.filter_append]
  cases g
  · rw [openEntries_filter_eq_nil _ (by decide) (by decide)]; rfl
  · rw [openEntries_filter_eq_nil _ (by decide) (by decide)]; rfl
  · exact (List.append_nil _).symm
  · exact (List.append_nil _).symm
  · rw [openEntries_filter_eq_nil _ (by decide) (by decide)]; rfl

/-- The order check, as a statement about every two entries. -/
theorem mapOrdered_iff_pairwise (es : List RegDef) :
    mapOrdered es = true ↔ es.Pairwise (fun e1 e2 => precedes e1 e2 = true) := by
  induction es with
  | nil => simp [mapOrdered]
  | cons e rest ih => simp [mapOrdered, ih]

/-- What the OPEN entries' checks say, said once (R190 to R192). -/
theorem openEntries_spec :
    (∀ e ∈ openEntries, openEntryOk e = true) ∧ openNamesOk openEntries = true ∧ mapOrdered openEntries = true := by
  have h := openEntries_ok
  simp only [openEntriesOk, Bool.and_eq_true, List.all_eq_true] at h
  exact ⟨h.1.1, h.1.2, h.2⟩

/-- Indexing moves entries and drops none (R199). -/
theorem indexTable_perm : indexTable.Perm regMap :=
  List.Perm.append_left _ (List.Perm.append_left _ List.perm_append_comm)

theorem mem_indexTable (e : RegDef) : e ∈ indexTable ↔ e ∈ regMap := indexTable_perm.mem_iff

theorem mem_groupEntries (g : Group) (e : RegDef) : e ∈ groupEntries g ↔ e ∈ regMap ∧ e.group = g := by
  rw [groupEntries_eq_filter]; simp

end Sys2Proof.Machine
end

