-- ==== Sys2Proof/Tests/Slice0.lean ====
section
/-! SUPPORT. Tests. Expected results are the spec's own vectors (95_test_vectors: S, V and P ids) or written out from its encoding tables.
At the end, one witness per statement with hypotheses: a state and operands that meet them all together. -/

namespace Sys2Proof.Tests

set_option Elab.async false

open Sys2Proof.Machine

/-! ### Helpers -/

/-- A connected engine with device id 1 whose environment will deliver these bytes, one list per read. -/
def line (bursts : List (List Byte)) : State :=
  { State.reset with
    connected := true, cfgDeviceId := 1
    env := { State.reset.env with link := some ⟨9600, ⟨10, 1⟩⟩, bursts := bursts } }

/-- The same engine, waiting for the answer to a request. -/
def waiting (r : Request) : State := (line [[], []]).sendRequest 1 r

/-- What a next state shows; none for a stop. -/
def seen {α : Type} (o : Out) (f : State → α) : Option α :=
  match o with
  | .next t => some (f t)
  | .fault _ => none
  | .refused _ => none

/-- The name of a refusal; none for a next state. -/
def stopName (o : Out) : Option Refusal :=
  match o with
  | .refused r => some r
  | .next _ => none
  | .fault _ => none

/-- What a decode gives; none for a rejection. -/
def decoded (p : Port) (bs : List Byte) : Option Instr :=
  match decode p bs with
  | .ok i => some i
  | .error _ => none

/-- Why bytes are rejected; none for an instruction. -/
def rejected (p : Port) (bs : List Byte) : Option DecodeError :=
  match decode p bs with
  | .ok _ => none
  | .error e => some e

/-- The eleven words of V11. -/
def block : List Word := [85, 132, 15, 0x1405, 125, 2, 25, 125, 8, 50, 1]

/-- The 24 bytes after the header of V11's frame. -/
def blockRest : List Byte :=
  [0x00, 0x55, 0x00, 0x84, 0x00, 0x0F, 0x14, 0x05, 0x00, 0x7D, 0x00, 0x02, 0x00, 0x19, 0x00, 0x7D, 0x00, 0x08,
   0x00, 0x32, 0x00, 0x01, 0xA2, 0xEE]

/-- The reading of V11. -/
def blockReading : Reading :=
  ⟨⟨85, 0⟩, ⟨132, 1⟩, ⟨15, 2⟩, 20, 5, ⟨125, 1⟩, ⟨2, 2⟩, ⟨25, 0⟩, ⟨125, 1⟩, ⟨8, 2⟩, ⟨50, 0⟩, true⟩

/-! ### Well-formedness: a term for each check that the check refuses -/

theorem test_wf_bldrd_device : (Instr.bldrd 0 0x03 0x0100 11).wf = false := by decide
theorem test_wf_bldrd_function : (Instr.bldrd 1 0x04 0x0100 11).wf = false := by decide
theorem test_wf_bldwr_device : (Instr.bldwr 248 0x010A 1).wf = false := by decide
theorem test_wf_parsehdr_long : (Instr.parsehdr [1, 3, 2, 0]).wf = false := by decide
theorem test_wf_words_odd : (Instr.words [0, 1, 0]).wf = false := by decide
theorem test_wf_words_capacity : (Instr.words (List.replicate 256 0)).wf = false := by decide +kernel
theorem test_wf_cvtscale_exponent : (Instr.cvtscale 5 3).wf = false := by decide
theorem test_wf_asmrt_length : (Instr.asmrt (block.take 10)).wf = false := by decide
theorem test_wf_reqRead_device : (Instr.reqRead 0 0x0100 11 0xF105).wf = false := by decide
theorem test_wf_reqRead_checksum : (Instr.reqRead 1 0x0100 11 0x05F1).wf = false := by decide +kernel
theorem test_wf_reqWrite_device : (Instr.reqWrite 248 0x010A 1 0xF469).wf = false := by decide
theorem test_wf_reqWrite_checksum : (Instr.reqWrite 1 0x010A 1 0x69F4).wf = false := by decide +kernel
theorem test_wf_rspRead_function : (Instr.rspRead 1 0x83 [0, 1] 0).wf = false := by decide
theorem test_wf_rspRead_length : (Instr.rspRead 1 0x03 (List.replicate 256 0) 0).wf = false := by decide +kernel
theorem test_wf_rspWrite_function : (Instr.rspWrite 1 0x86 0x010A 1 0).wf = false := by decide
theorem test_wf_rspExc_function : (Instr.rspExc 1 0x03 2 0).wf = false := by decide
theorem test_wf_accepts : (Instr.reqRead 1 0x0100 11 0xF105).wf = true ∧ (Instr.bldrd 247 0x06 0 0).wf = true ∧
    (Instr.rspRead 1 0x03 [0, 1] 0x8479).wf = true ∧ (Instr.words (List.replicate 254 0)).wf = true := by decide +kernel

/-! ### Decoding: one word of every constructor, from R91 to R95, R104, R106 -/

theorem test_decode_crc16 : decoded .command [0x00, 0x00] = some (.crc16 [0x00]) := by decide
theorem test_decode_verify : decoded .command [0x01, 0x00, 0xBF, 0x40] = some (.verify [0x00, 0xBF, 0x40]) := by decide
theorem test_decode_bldrd : decoded .command [0x02, 0x01, 0x03, 0x01, 0x00, 0x00, 0x0B] =
    some (.bldrd 1 0x03 0x0100 11) := by decide
theorem test_decode_bldwr : decoded .command [0x03, 0x01, 0x01, 0x0A, 0x00, 0x01] = some (.bldwr 1 0x010A 1) := by decide
theorem test_decode_parsehdr : decoded .command [0x04, 0x01, 0x03, 0x16] = some (.parsehdr [0x01, 0x03, 0x16]) := by decide
theorem test_decode_words : decoded .command [0x05, 0x14, 0x05] = some (.words [0x14, 0x05]) := by decide
theorem test_decode_connect : decoded .command [0x06] = some .connect := by decide
theorem test_decode_disconnect : decoded .command [0x07] = some .disconnect := by decide
theorem test_decode_rdregs : decoded .command [0x08, 0x01, 0x00, 0x00, 0x0B] = some (.rdregs 0x0100 11) := by decide
theorem test_decode_wrreg : decoded .command [0x09, 0x01, 0x0A, 0x00, 0x01] = some (.wrreg 0x010A 1) := by decide
theorem test_decode_rmlookup : decoded .command [0x0A, 0x00, 0x0E] = some (.rmlookup 14) := by decide
theorem test_decode_rmspan : decoded .command [0x0B, 0x04] = some (.rmspan .control) := by decide
theorem test_decode_cvtscale : decoded .command [0x0C, 0x00, 0x84, 0x01] = some (.cvtscale 132 1) := by decide
theorem test_decode_cvttemp : decoded .command [0x0D, 0xFE, 0x05] = some (.cvttemp 0xFE05) := by decide
theorem test_decode_cvtflag : decoded .command [0x0E, 0x01, 0x00] = some (.cvtflag 0x0100) := by decide
theorem test_decode_cvtascii : decoded .command [0x0F, 0x41, 0x42, 0xFF, 0x20] = some (.cvtascii [0x4142, 0xFF20]) := by decide
theorem test_decode_cvtver : decoded .command [0x10, 0x01, 0x02] = some (.cvtver 0x0102) := by decide
theorem test_decode_asmrt : decoded .command (0x11 :: blockRest.take 22) = some (.asmrt block) := by decide +kernel
theorem test_decode_rdrt : decoded .command [0x12] = some .rdrt := by decide
theorem test_decode_rdinfo : decoded .command [0x13] = some .rdinfo := by decide
theorem test_decode_setload : decoded .command [0x14, 0x01] = some (.setload true) := by decide
theorem test_decode_getload : decoded .command [0x15] = some .getload := by decide
theorem test_decode_reqRead : decoded .request [0x01, 0x03, 0x01, 0x00, 0x00, 0x0B, 0x05, 0xF1] =
    some (.reqRead 1 0x0100 11 0xF105) := by decide
theorem test_decode_reqWrite : decoded .request [0x01, 0x06, 0x01, 0x0A, 0x00, 0x01, 0x69, 0xF4] =
    some (.reqWrite 1 0x010A 1 0xF469) := by decide
theorem test_decode_rspRead : decoded .readResponse [0x01, 0x03, 0x02, 0x00, 0x01, 0x79, 0x84] =
    some (.rspRead 1 0x03 [0x00, 0x01] 0x8479) := by decide
theorem test_decode_rspWrite : decoded .writeResponse [0x01, 0x06, 0x01, 0x0A, 0x00, 0x01, 0x69, 0xF4] =
    some (.rspWrite 1 0x06 0x010A 1 0xF469) := by decide
theorem test_decode_rspExc : decoded .readResponse [0x01, 0x83, 0x02, 0xC0, 0xF1] = some (.rspExc 1 0x83 2 0xF1C0) ∧
    decoded .writeResponse [0x01, 0x86, 0x02, 0xC3, 0xA1] = some (.rspExc 1 0x86 2 0xA1C3) := by decide

/-- What is no instruction is rejected by name. -/
theorem test_decode_rejects :
    rejected .command [] = some .empty ∧ rejected .command [0x16] = some .reservedSelect ∧
    rejected .command [0x1F, 0x00] = some .reservedSelect ∧ rejected .command [0x12, 0x00] = some .operandLayout ∧
    rejected .command [0x11, 0x00] = some .oddWords ∧ rejected .command [0x14, 0x02] = some .flagValue ∧
    rejected .command [0x0B, 0x05] = some .groupNumber ∧
    rejected .request [0x01, 0x04, 0x01, 0x00, 0x00, 0x0B, 0x05, 0xF1] = some .requestFunction ∧
    rejected .readResponse [0x01, 0x03, 0x02, 0x00, 0x01, 0x79] = some .frameLength := by decide

/-- Words as the opcode table numbers them (R90). -/
theorem test_table_words :
    decodeTableWord 8 0x00 = some (.crc16 []) ∧ decodeTableWord 8 0x11 = some (.asmrt (List.replicate 11 0)) ∧
    decodeTableWord 8 0x15 = some .getload ∧ decodeTableWord 8 0x16 = none ∧
    decodeTableWord 64 0x01030100000B05F1 = some (.reqRead 1 0x0100 11 0xF105) ∧
    decodeTableWord 64 0x0106010A000169F4 = some (.reqWrite 1 0x010A 1 0xF469) ∧
    decodeTableWord 24 0x010302 = some (.rspRead 1 0x03 [0, 0] 0) ∧
    decodeTableWord 40 0x018302C0F1 = some (.rspExc 1 0x83 2 0xF1C0) := by decide +kernel

/-! ### Instructions -/

theorem test_crc16_vectors : seen (exec (.crc16 []) State.reset) (·.res) = some (.word 0xFFFF) ∧
    seen (exec (.crc16 [0x31, 0x32, 0x33, 0x34, 0x35, 0x36, 0x37, 0x38, 0x39]) State.reset) (·.res) = some (.word 0x4B37) := by
  decide +kernel
theorem test_crc16_order : seen (exec (.crc16 [1, 2]) State.reset) (·.acc) = some 0xE181 ∧
    seen (exec (.crc16 [2, 1]) State.reset) (·.acc) = some 0x10C1 := by decide +kernel
theorem test_verify_lengths : seen (exec (.verify [0xFF, 0xFF]) State.reset) (·.res) = some (.flag false) ∧
    seen (exec (.verify [0x00, 0xBF, 0x40]) State.reset) (fun t => (t.res, t.verifyOk)) = some (.flag true, true) := by
  decide +kernel
theorem test_verify_swapped : seen (exec (.verify [0x01, 0x83, 0x02, 0xF1, 0xC0]) State.reset)
    (fun t => (t.res, t.status)) = some (.flag false, .ok) := by decide +kernel
theorem test_bldrd_frame : seen (exec (.bldrd 247 0x03 0x0100 11) State.reset) (fun t => (t.res, t.txbuf.toList)) =
    some (.frame #v[0xF7, 0x03, 0x01, 0x00, 0x00, 0x0B, 0x11, 0x67], [0xF7, 0x03, 0x01, 0x00, 0x00, 0x0B, 0x11, 0x67]) := by
  decide +kernel
theorem test_bldrd_domains : stopName (exec (.bldrd 248 0x03 0x0100 11) State.reset) = some .deviceIdDomain ∧
    stopName (exec (.bldrd 1 0x04 0x0100 11) State.reset) = some .functionCodeDomain := by decide +kernel
theorem test_bldwr_frame : seen (exec (.bldwr 1 0xFFFF 0xFFFF) State.reset) (·.res) =
    some (.frame #v[0x01, 0x06, 0xFF, 0xFF, 0xFF, 0xFF, 0x88, 0x5E]) := by decide +kernel
theorem test_parsehdr_any : seen (exec (.parsehdr [0xFF, 0xFF, 0xFF]) State.reset) (·.res) =
    some (.header ⟨0xFF, 0xFF, 0xFF⟩) := by decide +kernel
theorem test_parsehdr_short : seen (exec (.parsehdr [0x01, 0x83]) State.reset) (fun t => (t.status, t.hdr)) =
    some (.communicationTimeout, ⟨0, 0, 0⟩) := by decide +kernel
theorem test_words_bigEndian : seen (exec (.words [0x00, 0x55, 0x80, 0x00]) State.reset) (fun t => (t.w, t.wcnt)) =
    some ([85, 32768], 2) := by decide +kernel
theorem test_words_odd : stopName (exec (.words [0x00, 0x01, 0x00]) State.reset) = some .oddPayload := by decide +kernel
/-- Ordinary data ends no run: 128 words, one more than the file holds (log 16). -/
theorem test_words_overlong : seen (exec (.words (List.replicate 256 0)) State.reset) (fun t => (t.status, t.phase)) =
    some (.ok, .idle) := by decide +kernel
theorem test_connect_opens : seen (exec .connect { State.reset with env := { State.reset.env with opens := [true] } })
    (fun t => (t.connected, t.status, t.env.link)) = some (true, .ok, some ⟨9600, ⟨10, 1⟩⟩) := by decide +kernel
theorem test_connect_fails : seen (exec .connect { State.reset with env := { State.reset.env with opens := [false] } })
    (fun t => (t.connected, t.status)) = some (false, .connectionFailure) ∧
    stopName (exec .connect (line [])) = some .alreadyConnected := by decide +kernel
theorem test_disconnect : seen (exec .disconnect (line [])) (fun t => (t.connected, t.status, t.env.link)) =
    some (false, .ok, none) ∧ seen (exec .disconnect State.reset) (·.status) = some .ok := by decide +kernel
/-- V21. -/
theorem test_rdregs_one : seen (exec (.rdregs 0x010A 1) (line [[1, 3, 2], [0x00, 0x01, 0x79, 0x84]]))
    (fun t => (t.status, t.w, t.rxlen, t.env.tx)) =
    some (.ok, [1], 7, [0x01, 0x03, 0x01, 0x0A, 0x00, 0x01, 0xA5, 0xF4]) := by decide +kernel
/-- V25, V30. -/
theorem test_rdregs_bad : seen (exec (.rdregs 0x010A 1) (line [[1, 3, 2], [0x00, 0x01, 0x79, 0x85]]))
    (fun t => (t.status, t.verifyOk, t.rxbuf, t.wcnt)) = some (.crcMismatch, false, [1, 3, 2, 0x00, 0x01, 0x79, 0x85], 0) ∧
    stopName (exec (.rdregs 0x010A 1) (line [[1, 3, 4], [0, 1, 0, 2, 0x2A, 0x32]])) = some .payloadLength := by decide +kernel
/-- V33: the echo is not compared. -/
theorem test_wrreg_echo : seen (exec (.wrreg 0x010A 1) (line [[1, 6, 1], [0x0A, 0x00, 0x00, 0xA8, 0x34]]))
    (fun t => (t.status, t.res, t.rxlen)) = some (.ok, .nothing, 8) := by decide +kernel
/-- V34. -/
theorem test_wrreg_exception : seen (exec (.wrreg 0x010A 1) (line [[1, 0x86, 2], [0xC3, 0xA1]]))
    (fun t => (t.status, t.excCode, t.excFc, t.env.rxq)) = some (.protocolException, 2, 0x86, []) := by decide +kernel
/-- V38. -/
theorem test_rmlookup_entries : seen (exec (.rmlookup 6) State.reset)
      (fun t => match t.res with | .entry e => (e.address, e.length, e.scale, e.signed) | _ => (0, 0, none, false)) =
      some (0x0103, 1, some 0, true) ∧
    seen (exec (.rmlookup 14) State.reset)
      (fun t => match t.res with | .entry e => (e.address, e.group) | _ => (0, .deviceInfo)) = some (0x010A, .control) := by
  decide +kernel
/-- R190, R191: OPEN entries in the map's order are accepted; a historical entry before a daily one, a second entry of one name,
and the sign flag on a word that is no packed temperature are not. -/
theorem test_openEntries :
    openEntriesOk [⟨.extra 0, .dailyStats, 0x010B, 1, some 1, false, .scaledUnsigned, []⟩,
      ⟨.extra 1, .historicalStats, 0x0115, 2, none, false, .scaledUnsigned, []⟩] = true ∧
    openEntriesOk [⟨.extra 1, .historicalStats, 0x0115, 2, none, false, .scaledUnsigned, []⟩,
      ⟨.extra 0, .dailyStats, 0x010B, 1, some 1, false, .scaledUnsigned, []⟩] = false ∧
    openEntriesOk [⟨.extra 0, .dailyStats, 0x010B, 1, none, false, .scaledUnsigned, []⟩,
      ⟨.extra 0, .dailyStats, 0x010C, 1, none, false, .scaledUnsigned, []⟩] = false ∧
    openEntriesOk [⟨.extra 0, .dailyStats, 0x010B, 1, none, true, .scaledUnsigned, []⟩] = false := by decide
/-- V37. -/
theorem test_rmspan_groups : seen (exec (.rmspan .deviceInfo) State.reset) (·.res) = some (.span 0x000C 20) ∧
    seen (exec (.rmspan .realTime) State.reset) (·.res) = some (.span 0x0100 11) := by decide +kernel
theorem test_cvtscale : seen (exec (.cvtscale 0x8000 1) State.reset) (·.res) = some (.decimal ⟨32768, 1⟩) ∧
    stopName (exec (.cvtscale 5 3) State.reset) = some .scaleDomain := by decide +kernel
/-- R212: `(800, 1)` equals 80. -/
theorem test_sameDecimal : sameDecimal ⟨800, 1⟩ ⟨80, 0⟩ = true ∧ sameDecimal ⟨801, 1⟩ ⟨80, 0⟩ = false := by decide
theorem test_cvttemp : seen (exec (.cvttemp 0xFE05) State.reset) (·.res) = some (.temperatures (-2) 5) ∧
    seen (exec (.cvttemp 0x80FF) State.reset) (·.res) = some (.temperatures (-128) (-1)) := by decide +kernel
theorem test_cvtflag : seen (exec (.cvtflag 1) State.reset) (·.res) = some (.flag true) ∧
    seen (exec (.cvtflag 0x0101) State.reset) (·.res) = some (.flag false) := by decide +kernel
/-- V43, second, fifth and sixth rows. -/
theorem test_cvtascii : seen (exec (.cvtascii [0x4142, 0xFF20]) State.reset) (·.res) = some (.text ['A', 'B']) ∧
    seen (exec (.cvtascii [0x2041, 0x0042, 0x20FF, 0x2000]) State.reset) (·.res) =
      some (.text [' ', 'A', Char.ofNat 0, 'B']) := by decide +kernel
theorem test_cvtver : seen (exec (.cvtver 0x0064) State.reset) (·.res) = some (.text ['V', '0', '.', '1', '0', '0']) ∧
    seen (exec (.cvtver 0x0A00) State.reset) (·.res) = some (.text ['V', '1', '0', '.', '0']) := by decide +kernel
/-- V11, V45. -/
theorem test_asmrt : seen (exec (.asmrt block) State.reset) (·.res) = some (.reading blockReading) ∧
    stopName (exec (.asmrt (0 :: block)) State.reset) = some .blockLength := by decide +kernel
/-- P1. -/
theorem test_rdrt : seen (exec .rdrt (line [[1, 3, 0x16], blockRest])) (fun t => (t.status, t.res, t.rxlen, t.wcnt)) =
    some (.ok, .reading blockReading, 27, 11) := by decide +kernel
/-- P4, step 1: ten of 24 bytes. -/
theorem test_rdrt_timeout : seen (exec .rdrt (line [[1, 3, 0x16], blockRest.take 10])) (fun t => (t.status, t.wcnt, t.env.rxq)) =
    some (.communicationTimeout, 0, []) := by decide +kernel
/-- P5, with its choice of the version words. -/
theorem test_rdinfo : seen (readDeviceInfo 0 1 (line
      [[1, 3, 0x10], [0x4D, 0x4F, 0x44, 0x45, 0x4C, 0x2D, 0x58, 0x31, 0x20, 0x20, 0x20, 0x20, 0, 0, 0, 0, 0x57, 0x8D],
       [], [1, 3, 8], [1, 2, 3, 4, 5, 6, 7, 8, 0x65, 0x13]])) (fun t => (t.status, t.res, t.w)) =
    some (.ok, .info ⟨"MODEL-X1".toList, [], "V1.2".toList, "V3.4".toList⟩, [0x0102, 0x0304, 0x0506, 0x0708]) := by
  decide +kernel
/-- P2, step 1, and V50. -/
theorem test_setload : seen (exec (.setload true) (line [[1, 6, 1], [0x0A, 0x00, 0x01, 0x69, 0xF4]]))
      (fun t => (t.status, t.env.tx, t.wcnt)) = some (.ok, [0x01, 0x06, 0x01, 0x0A, 0x00, 0x01, 0x69, 0xF4], 0) ∧
    seen (exec (.setload false) (line [[1, 6, 1], [0x0A, 0x00, 0x00, 0xA8, 0x34]])) (·.env.tx) =
      some [0x01, 0x06, 0x01, 0x0A, 0x00, 0x00, 0xA8, 0x34] := by decide +kernel
/-- P2, step 2, and V49. -/
theorem test_getload : seen (exec .getload (line [[1, 3, 2], [0x00, 0x01, 0x79, 0x84]])) (·.res) = some (.flag true) ∧
    seen (exec .getload (line [[1, 3, 2], [0x00, 0x02, 0x39, 0x85]])) (·.res) = some (.flag false) := by decide +kernel
theorem test_reqRead : seen (exec (.reqRead 1 0x010A 1 0xF4A5) { line [] with env := { (line []).env with rxq := [0xAA] } })
    (fun t => (t.phase, t.env.tx, t.env.rxq)) = some (.sent, [0x01, 0x03, 0x01, 0x0A, 0x00, 0x01, 0xA5, 0xF4], []) := by
  decide +kernel
theorem test_reqWrite : seen (exec (.reqWrite 1 0x010A 1 0xF469) (line [])) (fun t => (t.phase, t.env.tx)) =
    some (.sent, [0x01, 0x06, 0x01, 0x0A, 0x00, 0x01, 0x69, 0xF4]) ∧
    stopName (exec (.reqWrite 1 0x010A 1 0x69F4) (line [])) = some .requestChecksum := by decide +kernel
theorem test_rspRead : seen (exec (.rspRead 1 0x03 [0, 1] 0x8479) (waiting (.read 0x010A 1)))
    (fun t => (t.status, t.phase, t.res)) = some (.ok, .idle, .words [1]) := by decide +kernel
theorem test_rspWrite : seen (exec (.rspWrite 1 0x06 0x010A 1 0xF469) (waiting (.write 0x010A 1)))
    (fun t => (t.status, t.phase, t.rxlen)) = some (.ok, .idle, 8) := by decide +kernel
/-- V28, and R258: unasked, it stays in the stream. -/
theorem test_rspExc : seen (exec (.rspExc 1 0xFF 2 0x31E0) (waiting (.write 0x010A 1)))
      (fun t => (t.status, t.excCode, t.excFc)) = some (.protocolException, 2, 0xFF) ∧
    seen (exec (.rspExc 1 0x83 2 0xF1C0) (line [])) (·.env.rxq) = some [0x01, 0x83, 0x02, 0xC0, 0xF1] := by decide +kernel

/-! ### The step -/

theorem test_status_codes : [Status.ok, .connectionFailure, .notConnected, .communicationTimeout, .crcMismatch,
    .protocolException].map statusCode = [0, 1, 2, 3, 4, 5] := by decide
theorem test_phase_codes : [Phase.idle, .sent, .headerReceived, .exceptionDetected, .payloadReceived, .validated, .complete,
    .failed].map phaseCode = [0, 1, 2, 3, 4, 5, 6, 7] := by decide
theorem test_message_unknown : exceptionMessage 0x0C = "Unknown Exception (0x0C)".toList ∧
    exceptionMessage 0x02 = "Illegal Data Address".toList := by decide
/-- P6, step 1, through the step. -/
theorem test_step_command : seen (step { State.reset with inputs := [.bytes .command [0x08, 0x01, 0x00, 0x00, 0x0B]] })
    (fun t => (t.status, t.inputs, t.env.tx)) = some (.notConnected, [], []) := by decide +kernel
theorem test_step_fetchWord : seen (step (State.reset.withFetchWord 8 0x00)) (·.res) = some (.word 0xFFFF) ∧
    seen (step (State.reset.withFetchWord 64 0x01030100000B05F1)) (·.status) = some .notConnected := by decide +kernel

/-- A deadline that passes with nothing arriving, as an arrival of no bytes (R152, R300; log 31). -/
theorem test_step_deadline : seen (step { waiting (.read 0x010A 1) with inputs := [.bytes .readResponse []] })
    (fun t => (t.status, t.phase)) = some (.communicationTimeout, .idle) := by decide +kernel

/-! ### Witnesses -/

/-- A read of one register, answered whole. -/
def answeredLine : State := line [[1, 3, 2], [0x00, 0x01, 0x79, 0x84]]

/-- A write of 1 to the load switch, answered whole. -/
def echoedLine : State := line [[1, 6, 1], [0x0A, 0x00, 0x01, 0x69, 0xF4]]

theorem witness_CrcOfClosedMessageIsZero : (seen (exec (.crc16 [1]) State.reset) (·.acc)).isSome = true := by decide +kernel
theorem witness_VerifyComparesTrailingChecksum :
    ([0xFF, 0xFF] : List Byte).length < 3 ∧
    ([0x00] : List Byte) ≠ [] ∧ ([0x00, 0xBF, 0x40] : List Byte) = [0x00] ++ [0xBF, 0x40] := by decide
theorem witness_BuildersSerialiseRequests :
    (1 ≤ (1 : Byte).toNat ∧ (1 : Byte).toNat ≤ 247 ∧ ((0x06 : Byte) = 0x03 ∨ (0x06 : Byte) = 0x06)) ∧
    (1 ≤ (247 : Byte).toNat ∧ (247 : Byte).toNat ≤ 247 ∧ ((0x03 : Byte) = 0x03 ∨ (0x03 : Byte) = 0x06)) := by decide
theorem witness_BuiltFramesAreStatelessAndVerify :
    1 ≤ (247 : Byte).toNat ∧ (247 : Byte).toNat ≤ 247 ∧ ((0x06 : Byte) = 0x03 ∨ (0x06 : Byte) = 0x06) := by decide
theorem witness_RequestDomainsAreRefused :
    ((0 : Byte) = 0 ∨ 248 ≤ (0 : Byte).toNat) ∧ ((248 : Byte) = 0 ∨ 248 ≤ (248 : Byte).toNat) ∧
    (1 ≤ (1 : Byte).toNat ∧ (1 : Byte).toNat ≤ 247 ∧ (0x04 : Byte) ≠ 0x03 ∧ (0x04 : Byte) ≠ 0x06) ∧
    ({ line [] with cfgDeviceId := 248 }.connected = true ∧ { line [] with cfgDeviceId := 248 }.phase = .idle ∧
      248 ≤ { line [] with cfgDeviceId := 248 }.cfgDeviceId.toNat) := by decide
theorem witness_ParsehdrSplitsHeader :
    ([1, 3, 0x16] : List Byte) = [1, 3, 0x16] ∧ ([1, 3] : List Byte).length < 3 ∧ 3 < ([1, 3, 2, 0] : List Byte).length := by decide
theorem witness_WordsAreBigEndianPairs :
    (([] : List Byte).length = 2 * 0 ∧ 0 ≤ 127) ∧ (List.replicate 254 (0 : Byte)).length = 2 * 127 ∧ 127 ≤ 127 := by decide +kernel
theorem witness_PayloadLengthsOutsideDomain :
    ([0, 1, 0] : List Byte).length % 2 = 1 ∧
    ((List.replicate 256 (0 : Byte)).length % 2 = 0 ∧ 254 < (List.replicate 256 (0 : Byte)).length) ∧
    (line [[1, 3, 4], [0, 1, 0, 2, 0x2A, 0x32]]).ready = true ∧
    ReadAnswered (line [[1, 3, 4], [0, 1, 0, 2, 0x2A, 0x32]]) 0x010A 1 ⟨1, 3, 4⟩ [0, 1, 0, 2] ∧
    ([0, 1, 0, 2] : List Byte).length ≠ 2 * (1 : Word).toNat := by
  unfold ReadAnswered; decide +kernel
theorem witness_ConnectFollowsEnvironment :
    (line []).connected = true ∧ State.reset.connected = false ∧ State.reset.env.opens = [] ∧
    { State.reset.env with opens := [true] }.opens = true :: [] ∧
    { State.reset.env with opens := [false] }.opens = false :: [] := by decide
theorem witness_DisconnectAlwaysCloses :
    ((line []).phase = .idle ∧ (line []).connected = true) ∧ State.reset.phase = .idle ∧ State.reset.connected = false := by decide
theorem witness_NotConnectedBeforeAnythingElse :
    isTransactional .rdinfo = true ∧ State.reset.connected = false := by decide
theorem witness_PureOperationsIgnoreTransport : isPure (.crc16 []) = true := by decide
theorem witness_RequestFramesFlushAndSend :
    (line []).connected = true ∧ (line []).phase = .idle ∧ 1 ≤ (247 : Byte).toNat ∧ (247 : Byte).toNat ≤ 247 ∧
    (0x6711 : Word) = crc16 [247, 0x03, hi8 0x0100, lo8 0x0100, hi8 11, lo8 11] ∧
    #v[(0xF7 : Byte), 0x03, 0x01, 0x00, 0x00, 0x0B, 0x11, 0x67].toList =
      [247, 0x03, hi8 0x0100, lo8 0x0100, hi8 11, lo8 11, lo8 0x6711, hi8 0x6711] ∧
    (0x627D : Word) = crc16 [247, 0x06, hi8 0x010A, lo8 0x010A, hi8 1, lo8 1] ∧
    #v[(0xF7 : Byte), 0x06, 0x01, 0x0A, 0x00, 0x01, 0x7D, 0x62].toList =
      [247, 0x06, hi8 0x010A, lo8 0x010A, hi8 1, lo8 1, lo8 0x627D, hi8 0x627D] := by decide +kernel
theorem witness_TurnedAwayRequests :
    (isTransactional .getload = true ∧ (waiting (.read 0 1)).connected = true ∧ (waiting (.read 0 1)).phase ≠ .idle) ∧
    State.reset.connected = false ∧
    ((line []).connected = true ∧ (line []).phase = .idle ∧ 248 ≤ (248 : Byte).toNat) ∧
    1 ≤ (247 : Byte).toNat ∧ (247 : Byte).toNat ≤ 247 ∧
    (0x1167 : Word) ≠ crc16 [247, 0x03, hi8 0x0100, lo8 0x0100, hi8 11, lo8 11] ∧
    (0x7D62 : Word) ≠ crc16 [247, 0x06, hi8 0x010A, lo8 0x010A, hi8 1, lo8 1] := by decide +kernel
theorem witness_RxReadTakesHeadOfStream :
    3 ≤ ((line [[1, 3, 2]]).env.rxq ++ (line [[1, 3, 2]]).nextBurst).length ∧
    ((line [[1, 3]]).env.rxq ++ (line [[1, 3]]).nextBurst).length < 3 := by decide
theorem witness_RdregsReturnsWords :
    answeredLine.ready = true ∧ ReadAnswered answeredLine 0x010A 1 ⟨1, 3, 2⟩ (wordsToBytes [1]) ∧
    ([1] : List Word).length = (1 : Word).toNat := by
  unfold ReadAnswered; decide +kernel
theorem witness_RdregsReturnsWords_empty :
    (line [[1, 3, 0], [0x20, 0xF0]]).ready = true ∧
    ReadAnswered (line [[1, 3, 0], [0x20, 0xF0]]) 0x0100 0 ⟨1, 3, 0⟩ (wordsToBytes []) ∧
    ([] : List Word).length = (0 : Word).toNat := by
  unfold ReadAnswered; decide +kernel
theorem witness_WrregAcceptsVerifiedEcho :
    echoedLine.ready = true ∧ WriteAnswered echoedLine 0x010A 1 ⟨1, 6, 1⟩ 0x0A 0x00 0x01 := by
  unfold WriteAnswered; decide +kernel
theorem witness_IsExchange : IsExchange (.rdregs 0x010A 1) (.read 0x010A 1) ∧ IsExchange (.wrreg 0x010A 1) (.write 0x010A 1) :=
  ⟨.inl ⟨_, _, rfl, rfl⟩, .inr ⟨_, _, rfl, rfl⟩⟩
theorem witness_ShortHeaderTimesOut :
    (line [[1, 3]]).ready = true ∧ (((line [[1, 3]]).sendRequest 1 (.read 0x010A 1)).rxReadBytes 3).length < 3 := by
  decide +kernel
theorem witness_ExceptionResponseRaisesProtocolException :
    (line [[1, 0x83, 2], []]).ready = true ∧
    ((line [[1, 0x83, 2], []]).sendRequest 1 (.read 0x010A 1)).rxReadBytes 3 = headerBytes ⟨1, 0x83, 2⟩ ∧
    (0x83 : Byte) &&& 0x80 ≠ 0 := by decide +kernel
theorem witness_ShortRemainderTimesOut :
    (line [[1, 3, 2], [0, 1, 0x79]]).ready = true ∧
    ((line [[1, 3, 2], [0, 1, 0x79]]).sendRequest 1 (.read 0x010A 1)).rxReadBytes 3 = headerBytes ⟨1, 3, 2⟩ ∧
    (0x03 : Byte) &&& 0x80 = 0 ∧ 4 = (2 : Byte).toNat + 2 ∧
    ((((line [[1, 3, 2], [0, 1, 0x79]]).sendRequest 1 (.read 0x010A 1)).rxReadState 3).rxReadBytes 4).length < 4 ∧
    ((line [[1, 6, 1], [0x0A, 0, 1, 0x69]]).sendRequest 1 (.write 0x010A 1)).rxReadBytes 3 = headerBytes ⟨1, 6, 1⟩ ∧
    ((((line [[1, 6, 1], [0x0A, 0, 1, 0x69]]).sendRequest 1 (.write 0x010A 1)).rxReadState 3).rxReadBytes 5).length < 5 := by
  decide +kernel
theorem witness_WrongChecksumRaisesCrcMismatch :
    (line [[1, 3, 2], [0, 1, 0x79, 0x85]]).ready = true ∧
    ((line [[1, 3, 2], [0, 1, 0x79, 0x85]]).sendRequest 1 (.read 0x010A 1)).rxReadBytes 3 = headerBytes ⟨1, 3, 2⟩ ∧
    (0x03 : Byte) &&& 0x80 = 0 ∧ 4 = (2 : Byte).toNat + 2 ∧ 4 = ([0, 1] : List Byte).length + 2 ∧
    (((line [[1, 3, 2], [0, 1, 0x79, 0x85]]).sendRequest 1 (.read 0x010A 1)).rxReadState 3).rxReadBytes 4 =
      [0, 1] ++ [0x79, 0x85] ∧
    (crc16 (headerBytes ⟨1, 3, 2⟩ ++ [0, 1])).toNat ≠ (0x79 : Byte).toNat + 256 * (0x85 : Byte).toNat := by decide +kernel
theorem witness_WrongChecksumRaisesCrcMismatch_write :
    ((line [[1, 6, 1], [0x0A, 0, 1, 0x69, 0xF5]]).sendRequest 1 (.write 0x010A 1)).rxReadBytes 3 = headerBytes ⟨1, 6, 1⟩ ∧
    5 = ([0x0A, 0, 1] : List Byte).length + 2 ∧
    (((line [[1, 6, 1], [0x0A, 0, 1, 0x69, 0xF5]]).sendRequest 1 (.write 0x010A 1)).rxReadState 3).rxReadBytes 5 =
      [0x0A, 0, 1] ++ [0x69, 0xF5] ∧
    (crc16 (headerBytes ⟨1, 6, 1⟩ ++ [0x0A, 0, 1])).toNat ≠ (0x69 : Byte).toNat + 256 * (0xF5 : Byte).toNat := by decide +kernel
theorem witness_PhaseTakesTableEdges : (seen (phaseStep (waiting (.read 0x010A 1))) (·.phase)) = some .failed := by decide +kernel
theorem witness_ExchangeEndsInIdle : (waiting (.read 0x010A 1)).phase = .sent := rfl
theorem witness_StaleInputIsIrrelevant :
    isTransactional .getload = true ∧ (line []).connected = true ∧ (line []).phase = .idle ∧
    deviceIdOk (line []).cfgDeviceId = true := by decide
theorem witness_EachExchangeSendsOneRequest :
    answeredLine.ready = true ∧ (seen (exec (.rdregs 0x010A 1) answeredLine) (·.status)).isSome = true ∧
    (seen (exec .getload answeredLine) (·.status)).isSome = true ∧
    (seen (exec .rdrt (line [[]])) (·.status)).isSome = true ∧ (seen (exec (.setload true) (line [[]])) (·.status)).isSome = true ∧
    (seen (exec (.setload false) (line [[]])) (·.status)).isSome = true ∧
    (seen (exec .rdinfo (line [[], [], []])) (·.status)).isSome = true := by decide +kernel
theorem witness_LastingRegistersMoveOnlyAsGiven :
    (seen (exec .getload answeredLine) (·.connected)) = some true ∧ Instr.getload ≠ .connect ∧ Instr.getload ≠ .disconnect := by
  decide +kernel
theorem witness_WordFileSurvivesErrorsAndWrites :
    Instr.rdregs 0x010A 1 ≠ .rdinfo ∧ seen (exec (.rdregs 0x010A 1) (line [[]])) (·.status) = some .communicationTimeout ∧
    seen (exec (.wrreg 0x010A 1) echoedLine) (·.status) = some .ok ∧
    seen (exec (.setload true) echoedLine) (·.status) = some .ok := by decide +kernel
theorem witness_EarlierResultsDoNotMatter :
    Instr.getload.port = .command ∧ SameLasting answeredLine { answeredLine with w := [7], acc := 3, status := .crcMismatch } :=
  ⟨rfl, rfl, rfl, rfl, rfl, rfl, rfl, rfl, rfl, rfl⟩
theorem witness_RmlookupReturnsMapEntry :
    indexTable[(0 : Word).toNat]?.isSome = true ∧ indexTable[(14 : Word).toNat]?.isSome = true := by decide +kernel
theorem witness_RmspanCoversGroup : (∃ e ∈ regMap, e.group = .control) :=
  ⟨_, List.mem_append_right _ (List.mem_append_right _ (List.mem_append_right _ List.mem_cons_self)), rfl⟩
theorem witness_CvtscaleKeepsRawWord : ((2 : Byte) = 0 ∨ (2 : Byte) = 1 ∨ (2 : Byte) = 2) ∧ 3 ≤ (3 : Byte).toNat := by decide
theorem witness_CvttempSignsEachByte :
    (0x80FF : Word).toNat = (0x80 : Byte).toNat * 256 + (0xFF : Byte).toNat ∧
    (0x7F00 : Word).toNat = (0x7F : Byte).toNat * 256 + (0x00 : Byte).toNat := by decide
theorem witness_AsmrtMapsElevenWords : (block.take 10).length ≠ 11 ∧ (0 :: block).length ≠ 11 := by decide
theorem witness_RdrtAssemblesRealTimeBlock :
    (line [[1, 3, 0x16], blockRest]).ready = true ∧
    ReadAnswered (line [[1, 3, 0x16], blockRest]) 0x0100 11 ⟨1, 3, 0x16⟩ (wordsToBytes block) ∧ block.length = 11 := by
  unfold ReadAnswered; decide +kernel
theorem witness_GetloadTestsLoadWord :
    answeredLine.ready = true ∧ ReadAnswered answeredLine 0x010A 1 ⟨1, 3, 2⟩ (be16 1) := by
  unfold ReadAnswered; decide +kernel
theorem witness_SetloadWritesLoadRegister :
    echoedLine.ready = true ∧ WriteAnswered echoedLine 0x010A (if true then 1 else 0) ⟨1, 6, 1⟩ 0x0A 0x00 0x01 := by
  unfold WriteAnswered; decide +kernel
theorem witness_CompositesHandOnErrors :
    seen (exec (.rdregs 0x0100 11) (line [[]])) (·.status) = some .communicationTimeout ∧
    stopName (exec (.rdregs 0x0100 11) (line [[1, 3, 0], [0x20, 0xF0]])) = some .payloadLength ∧
    seen (exec (.rdregs 0x010A 1) (line [[]])) (·.status) = some .communicationTimeout ∧
    stopName (exec (.rdregs 0x010A 1) (line [[1, 3, 0], [0x20, 0xF0]])) = some .payloadLength ∧
    seen (exec (.wrreg 0x010A 0) (line [[]])) (·.status) = some .communicationTimeout := by decide +kernel
theorem witness_RdinfoAttemptsThreeBlocks :
    ∃ u1 u2 u3, (line [[], [], []]).connected = true ∧ exec (.rdregs 0x000C 8) (line [[], [], []]) = .next u1 ∧
      exec (.rdregs 0x0018 8) u1 = .next u2 ∧ exec (.rdregs 0x0014 4) u2 = .next u3 := ⟨_, _, _, rfl, rfl, rfl, rfl⟩
/-- A refusal of the first, second and third attempt, each after the next states of the earlier ones (no answer to those): the
frame is the whole response with an empty payload of 95_test_vectors, where eight or four words were asked for. -/
theorem witness_RdinfoAttemptsThreeBlocks_refused :
    (line [[1, 3, 0], [0x20, 0xF0]]).connected = true ∧
    stopName (exec (.rdregs 0x000C 8) (line [[1, 3, 0], [0x20, 0xF0]])) = some .payloadLength ∧
    (∃ u1, exec (.rdregs 0x000C 8) (line [[], [1, 3, 0], [0x20, 0xF0]]) = .next u1 ∧
      stopName (exec (.rdregs 0x0018 8) u1) = some .payloadLength) ∧
    (∃ u1 u2, exec (.rdregs 0x000C 8) (line [[], [], [1, 3, 0], [0x20, 0xF0]]) = .next u1 ∧
      exec (.rdregs 0x0018 8) u1 = .next u2 ∧ stopName (exec (.rdregs 0x0014 4) u2) = some .payloadLength) :=
  ⟨rfl, by decide +kernel, ⟨_, rfl, by decide +kernel⟩, ⟨_, _, rfl, rfl, by decide +kernel⟩⟩
theorem witness_RdinfoCompletesWithoutAnswers :
    (line [[], [1], [1, 3]]).ready = true ∧ (line [[], [1], [1, 3]]).env.bursts = [] :: [1] :: [1, 3] :: [] ∧
    ([1, 3] : List Byte).length < 3 := by decide
theorem witness_RdinfoDecodesThreeBlocks :
    (0x03 : Byte) &&& 0x80 = 0 ∧ (List.replicate 8 (0x4142 : Word)).length = 8 ∧ ([1, 2, 3, 4] : List Word).length = 4 ∧
    ∀ bursts, (line bursts).ready = true ∧ (line bursts).env.bursts = bursts :=
  ⟨by decide, rfl, rfl, fun _ => ⟨rfl, rfl⟩⟩
theorem witness_ReadResponseFrameCompletesExchange :
    (waiting (.read 0x010A 1)).connected = true ∧ (waiting (.read 0x010A 1)).phase = .sent ∧
    (waiting (.read 0x010A 1)).env.rxq = [] ∧ ([1] : List Word).length ≤ 127 ∧
    (waiting (.read 0x010A 1)).request = .read 0x010A (BitVec.ofNat 16 1) ∧ (0x03 : Byte) &&& 0x80 = 0 := by decide +kernel
theorem witness_WriteResponseFrameCompletesExchange :
    (waiting (.write 0x010A 1)).connected = true ∧ (waiting (.write 0x010A 1)).phase = .sent ∧
    (waiting (.write 0x010A 1)).env.rxq = [] ∧ (waiting (.write 0x010A 1)).request = .write 0x010A 1 ∧
    (0x06 : Byte) &&& 0x80 = 0 := by decide +kernel
theorem witness_ExceptionFrameEndsExchange :
    (waiting (.write 0x010A 1)).connected = true ∧ (waiting (.write 0x010A 1)).phase = .sent ∧
    (waiting (.write 0x010A 1)).env.rxq = [] ∧ (0x86 : Byte) &&& 0x80 ≠ 0 := by decide +kernel
theorem witness_UnaskedFramesStayBuffered :
    (Instr.rspExc 1 0x83 2 0).port = .readResponse ∧ (line []).connected = true ∧ (line []).phase = .idle ∧
    State.reset.connected = false := by decide
theorem witness_ExchangeIsRequestThenResponse :
    IsExchange (.wrreg 0x010A 1) (.write 0x010A 1) ∧ (line [[]]).ready = true ∧ (line [[]]).env.bursts = [] :: [] ∧
    (Instr.rspWrite 1 6 0x010A 1 0).port = .writeResponse ∧ (Instr.rspRead 1 3 [] 0).port = .readResponse :=
  ⟨.inr ⟨_, _, rfl, rfl⟩, by decide⟩
theorem witness_ExceptionCodesHaveTexts :
    ((0x0B : Byte).toNat, "Gateway Target Failed to Respond") ∈ [(0x0B, "Gateway Target Failed to Respond")] ∧
    (0x07 : Byte).toNat ∉ [0x01, 0x02, 0x03, 0x04, 0x05, 0x06, 0x08, 0x0A, 0x0B] := by decide
theorem witness_StepExecutesDecodedInput :
    { State.reset with inputs := [.bytes .command [0x07]] }.inputs = .bytes .command [0x07] :: [] ∧
    decoded .command [0x07] = some .disconnect := by decide
theorem witness_StepWithoutInstruction :
    State.reset.inputs = [] ∧ 0x16 ≤ (0x16 : Byte).toNat ∧ (0x1F : Byte).toNat ≤ 0x1F ∧
    ([1, 3] : List Byte).length < 3 ∧ (line []).connected = true ∧ (line []).phase = .idle := by decide
theorem witness_StepKeepsInvariant :
    { line [[]] with inputs := [.bytes .command [0x15]] }.Inv ∧
    (seen (step { line [[]] with inputs := [.bytes .command [0x15]] }) (·.status)) = some .communicationTimeout := by
  decide +kernel
theorem witness_DecodeInvertsEncode :
    (Instr.words (List.replicate 254 0)).wf = true ∧ (Instr.rspRead 0 0x7F (List.replicate 255 0) 0).wf = true ∧
    (Instr.reqWrite 247 0x010A 1 0x627D).wf = true := by decide +kernel

end Sys2Proof.Tests
end

section
/-! Proofs about the scope (00_scope.md): what no request is sent for, an exchange as two wire events, one step. -/

namespace Sys2Proof.Machine

/-! ### The gates before a request (R183, R178, R143) -/

theorem sendGated_notConnected (d : Byte) (s : State) (go : Out) (hc : s.connected = false) :
    sendGated d s go = .next (s.raise .notConnected) := if_pos hc

theorem sendGated_busy (d : Byte) (s : State) (go : Out) (hc : s.connected = true) (hp : s.phase ≠ .idle) :
    sendGated d s go = .refused .operationInProgress := by
  simp [sendGated, hc, hp]

theorem sendGated_deviceIdDomain (d : Byte) (s : State) (go : Out) (hc : s.connected = true) (hp : s.phase = .idle)
    (hd : deviceIdOk d = false) : sendGated d s go = .refused .deviceIdDomain := by
  simp [sendGated, hc, hp, hd]

theorem deviceIdOk_eq_true_iff (d : Byte) : deviceIdOk d = true ↔ 1 ≤ d.toNat ∧ d.toNat ≤ 247 := by
  simp [deviceIdOk]

theorem deviceIdOk_eq_false (d : Byte) (h : d = 0 ∨ 248 ≤ d.toNat) : deviceIdOk d = false := by
  rw [← Bool.not_eq_true, deviceIdOk_eq_true_iff]
  rcases h with rfl | h
  · simp
  · omega

/-- A request frame is the sending of some request with the frame's device id and checksum (R91, R92). -/
theorem exec_requestFrame (i : Instr) (d : Byte) (x y c : Word) (s : State)
    (h : i = .reqRead d x y c ∨ i = .reqWrite d x y c) : ∃ r, exec i s = sendFrame d r c s := by
  rcases h with rfl | rfl
  · exact ⟨.read x y, rfl⟩
  · exact ⟨.write x y, rfl⟩

theorem sendFrame_requestChecksum (d : Byte) (r : Request) (c : Word) (s : State) (hc : s.connected = true)
    (hp : s.phase = .idle) (hd : deviceIdOk d = true) (hne : c ≠ requestCrc d r) :
    sendFrame d r c s = .refused .requestChecksum :=
  (sendGated_ready s _ hc hp d hd).trans (if_neg hne)

/-! ### Overlap (R8, R178, R290) -/

theorem transact_busy (r : Request) (s : State) (hc : s.connected = true) (hp : s.phase ≠ .idle) :
    transact r s = .refused .operationInProgress := sendGated_busy _ s _ hc hp

/-- RDINFO drops errors of its attempts, but a refusal of the first one is its own (R232). -/
theorem readDeviceInfo_refused (hw sw : Fin 4) (s : State) (q : Refusal) (hc : s.connected = true)
    (ht : transact (.read aModel nModel) s = .refused q) : readDeviceInfo hw sw s = .refused q := by
  have ha : attempt aModel nModel s = .refused q := (attempt_refused_iff aModel nModel s q).mpr ht
  simp [readDeviceInfo, hc, ha]

theorem onSuccess_refused (q : Refusal) (k : State → Out) : onSuccess (.refused q) k = .refused q := rfl

theorem exec_transactional_busy (i : Instr) (s : State) (hi : isTransactional i = true) (hc : s.connected = true)
    (hp : s.phase ≠ .idle) : exec i s = .refused .operationInProgress := by
  have ht := fun r => transact_busy r s hc hp
  cases i with
  | rdregs a n => exact ht _
  | wrreg a v => exact ht _
  | setload on => exact ht _
  | rdrt =>
    change execRdrt s = _
    rw [execRdrt_eq, ht, onSuccess_refused]
  | getload =>
    change execGetload s = _
    rw [execGetload, ht, onSuccess_refused]
  | rdinfo => exact readDeviceInfo_refused _ _ s _ hc (ht _)
  | _ => cases hi

/-- Settles O17: each clause is the gate that turns the request away. -/
theorem turnedAwayRequests : Obligations.TurnedAwayRequests := by
  intro s d x y c
  refine ⟨?overlap, ?disconnect, ?notConnected, ?deviceId, ?checksum⟩
  case overlap =>
    rintro i (hi | hi) hc hp
    · exact exec_transactional_busy i s hi hc hp
    · obtain ⟨r, hr⟩ := exec_requestFrame i d x y c s hi
      exact hr.trans (sendGated_busy d s _ hc hp)
  case disconnect => exact fun hp => if_pos hp
  case notConnected =>
    intro i hi hc
    obtain ⟨r, hr⟩ := exec_requestFrame i d x y c s hi
    exact ⟨_, _, hr.trans (sendGated_notConnected d s _ hc)⟩
  case deviceId =>
    intro i hi hc hp hd
    obtain ⟨r, hr⟩ := exec_requestFrame i d x y c s hi
    exact hr.trans (sendGated_deviceIdDomain d s _ hc hp (deviceIdOk_eq_false d hd))
  case checksum =>
    intro hc hp h1 h247
    have hd : deviceIdOk d = true := (deviceIdOk_eq_true_iff d).mpr ⟨h1, h247⟩
    exact ⟨sendFrame_requestChecksum d (.read x y) c s hc hp hd, sendFrame_requestChecksum d (.write x y) c s hc hp hd⟩

/-! ### An exchange as its two wire events (R7, R171) -/

/-- A waiting exchange depends on its state through the outcome of the header read alone (R151). -/
theorem finishExchange_congr (s t : State) (hs : s.phase = .sent) (ht : t.phase = .sent)
    (hb : s.rxReadBytes 3 = t.rxReadBytes 3) (hr : s.rxReadState 3 = t.rxReadState 3) :
    finishExchange s = finishExchange t := by
  rcases hl : headerOf (t.rxReadBytes 3) with _ | h
  · rw [finishExchange_shortHeader s hs (hb ▸ hl), finishExchange_shortHeader t ht hl, hr]
  · rw [finishExchange_header s h hs (hb ▸ hl), finishExchange_header t h ht hl, State.withHeader, hr, State.withHeader]

/-- The environment's next scripted arrivals, replaced (log 5). -/
def State.withBursts (bursts : List (List Byte)) (s : State) : State := { s with env := { s.env with bursts := bursts } }

/-- Bytes that head the next scripted arrival may as well have arrived before: the read finds the same stream (R71). -/
theorem finishExchange_withBursts (s : State) (bs b : List Byte) (more : List (List Byte)) (hp : s.phase = .sent)
    (h : s.env.bursts = b :: more) :
    finishExchange (s.withBursts ((bs ++ b) :: more)) = finishExchange (s.receiveBytes bs) := by
  have hq : (s.receiveBytes bs).env.bursts = b :: more := h
  apply finishExchange_congr
  · exact hp
  · exact hp
  · rw [rxReadBytes_scripted 3 _ (bs ++ b) more rfl, rxReadBytes_scripted 3 _ b more hq]
    simp [State.withBursts]
  · rw [rxReadState_scripted 3 _ (bs ++ b) more rfl, rxReadState_scripted 3 _ b more hq]
    simp [State.withBursts, State.receiveBytes]

/-- Settles O52: both presentations send the same request, and the header read finds the same bytes. -/
theorem exchangeIsRequestThenResponse : Obligations.ExchangeIsRequestThenResponse := by
  intro x r s i b more hx hr hb hi
  obtain ⟨hc, hp, hd⟩ := (ready_iff s).mp hr
  rw [exec_requestInstr _ r s hc hp hd]
  calc exec x (s.withBursts ((encode i ++ b) :: more))
      = finishExchange ((s.sendRequest s.cfgDeviceId r).withBursts ((encode i ++ b) :: more)) := exec_exchange x r _ hx hr
    _ = finishExchange ((s.sendRequest s.cfgDeviceId r).receiveBytes (encode i)) :=
        finishExchange_withBursts _ _ b more rfl hb
    _ = arrive (encode i) (s.sendRequest s.cfgDeviceId r) := (arrive_connected _ (s.sendRequest _ r) hc).symm
    _ = exec i (s.sendRequest s.cfgDeviceId r) := (exec_response i _ hi).symm

/-! ### One step (R7) -/

theorem takeInput_of_cons (s : State) (x : Input) (rest : List Input) (h : s.inputs = x :: rest) :
    s.takeInput = { s with inputs := rest } := by
  rw [State.takeInput, h, List.drop_one, List.tail_cons]

/-- Settles O55: the step's branch for bytes that decode. -/
theorem stepExecutesDecodedInput : Obligations.StepExecutesDecodedInput := by
  intro s p bs rest i h hd
  rw [← takeInput_of_cons s _ rest h]
  simp only [step, h, hd]

end Sys2Proof.Machine
end

section
/-! Proofs about the state (10_state.md): what an operation may change, what it may depend on, the invariant, the reset values. -/

namespace Sys2Proof.Machine

/-! ### What each kind of instruction changes -/

/-- The kinds of instruction (R104): pure, transactional, CONNECT, DISCONNECT, and on the wire request and response frames. -/
theorem instr_kinds (i : Instr) :
    isPure i = true ∨ isTransactional i = true ∨ i = .connect ∨ i = .disconnect ∨
      i.port ≠ .command ∧ ((∃ d r c, exec i = sendFrame d r c) ∨ ∃ bs, exec i = arrive bs) := by
  cases i with
  | connect => simp
  | disconnect => simp
  | rdregs | wrreg | rdrt | rdinfo | setload | getload => exact .inr (.inl rfl)
  | reqRead | reqWrite => exact .inr (.inr (.inr (.inr ⟨nofun, .inl ⟨_, _, _, rfl⟩⟩)))
  | rspRead | rspWrite | rspExc => exact .inr (.inr (.inr (.inr ⟨nofun, .inr ⟨_, rfl⟩⟩)))
  | _ => exact .inl rfl

/-- `t` is `s` but for data registers, the counter of the free values, and words that the word file has room for. -/
structure DataOnly (s t : State) : Prop where
  frame : t = { s with
    acc := t.acc, txbuf := t.txbuf, hdr := t.hdr, w := t.w, wcnt := t.wcnt, res := t.res, status := t.status
    verifyOk := t.verifyOk, free := t.free }
  words : t.w = s.w ∧ t.wcnt = s.wcnt ∨ t.wcnt = t.w.length ∧ t.wcnt ≤ wordFileCapacity

/-- All a pure operation can change (R104). -/
theorem exec_pure_next (i : Instr) (s t : State) (hi : isPure i = true) (h : exec i s = .next t) : DataOnly s t := by
  cases i with
  | crc16 | cvttemp | cvtflag | cvtascii | cvtver => cases h; exact ⟨rfl, .inl ⟨rfl, rfl⟩⟩
  | verify buf =>
    simp only [exec, execVerify, State.runVerify] at h
    split at h <;> cases h <;> exact ⟨rfl, .inl ⟨rfl, rfl⟩⟩
  | bldrd d f a n =>
    simp only [exec, execBldrd] at h
    split at h
    · cases h
    · split at h <;> cases h
      exact ⟨rfl, .inl ⟨rfl, rfl⟩⟩
  | bldwr | rmlookup | rmspan | cvtscale | asmrt =>
    simp only [exec, execBldwr, execRmlookup, execRmspan, execCvtscale, execAsmrt] at h
    split at h <;> cases h
    exact ⟨rfl, .inl ⟨rfl, rfl⟩⟩
  | parsehdr bs =>
    simp only [exec, execParsehdr] at h
    split at h
    · cases h
    · split at h <;> cases h <;> exact ⟨rfl, .inl ⟨rfl, rfl⟩⟩
  | words p =>
    obtain ⟨ws, n, hcap, rfl, -⟩ := execWords_next p s t h
    exact ⟨rfl, .inr ⟨rfl, hcap⟩⟩
  | _ => cases hi

/-- What every exchange keeps, and the ends of the composites keep, every transactional operation keeps (R231 to R235). -/
theorem exec_transactional_keeps (P : State → Prop)
    (hexchange : ∀ r s t, P s → transact r s = .next t → P t) (hfinish : ∀ v s, P s → P (s.finish v))
    (hforget : ∀ s, P s → P s.forgetException) (i : Instr) (s t : State) (hi : isTransactional i = true) (hs : P s)
    (h : exec i s = .next t) : P t := by
  cases i with
  | rdregs | wrreg | setload => exact hexchange _ s t hs h
  | rdrt =>
    rcases onSuccess_next _ _ t ((execRdrt_eq s).symm.trans h) with ⟨u, hu, -, hk⟩ | ⟨ht, -⟩
    · split at hk <;> cases hk
      exact hfinish _ u (hexchange _ s u hs hu)
    · exact hexchange _ s t hs ht
  | getload =>
    rcases onSuccess_next _ _ t h with ⟨u, hu, -, hk⟩ | ⟨ht, -⟩
    · cases hk; exact hfinish _ u (hexchange _ s u hs hu)
    · exact hexchange _ s t hs ht
  | rdinfo =>
    rcases hc : s.connected with _ | _
    · have hn : exec .rdinfo s = .next (s.raise .notConnected) := if_pos hc
      exact hexchange (.read 0 0) s t hs ((transact_notConnected _ s hc).trans (hn.symm.trans h))
    · obtain ⟨m, s1, n, s2, v, s3, h1, h2, h3, rfl⟩ := readDeviceInfo_next _ _ s t hc h
      have p1 := hexchange _ s s1 hs (attempt_next _ _ _ _ _ h1).1
      have p2 := hexchange _ s1 s2 p1 (attempt_next _ _ _ _ _ h2).1
      have p3 := hexchange _ s2 s3 p2 (attempt_next _ _ _ _ _ h3).1
      unfold finishInfo
      split
      · exact hfinish _ s3 p3
      · exact hforget _ (hfinish _ s3 p3)
  | _ => cases hi

/-- All a request frame can do (R91, R92, R171): raise, or send. -/
theorem sendFrame_next (d : Byte) (r : Request) (c : Word) (s t : State) (h : sendFrame d r c s = .next t) :
    t = s.raise .notConnected ∨ s.connected = true ∧ t = s.sendRequest d r := by
  rcases sendGated_next d s t _ h with ⟨-, rfl⟩ | ⟨hc, -, -, hgo⟩
  · exact .inl rfl
  · split at hgo <;> cases hgo
    exact .inr ⟨hc, rfl⟩

/-- All an arrival can do (R44, R258): nothing where no transport is open, else an exchange goes on with the bytes. -/
theorem arrive_next (bs : List Byte) (s t : State) (h : arrive bs s = .next t) :
    t = s ∨ s.connected = true ∧ finishExchange (s.receiveBytes bs) = .next t := by
  rcases hc : s.connected with _ | _
  · rw [arrive_notConnected bs s hc] at h; cases h; exact .inl rfl
  · rw [arrive_connected bs s hc] at h; exact .inr ⟨rfl, h⟩

/-! ### The lasting registers (R34, R36 to R39, R184) -/

theorem Untouched.raise (e : ErrorKind) (s : State) : Untouched s (s.raise e) := by
  cases e <;> exact ⟨rfl, rfl, rfl, rfl, rfl, rfl, rfl, rfl⟩

theorem sendFrame_untouched (d : Byte) (r : Request) (c : Word) (s t : State) (h : sendFrame d r c s = .next t) :
    Untouched s t := by
  rcases sendFrame_next d r c s t h with rfl | ⟨-, rfl⟩
  · exact .raise _ s
  · exact ⟨rfl, rfl, rfl, rfl, rfl, rfl, rfl, rfl⟩

theorem arrive_untouched (bs : List Byte) (s t : State) (h : arrive bs s = .next t) : Untouched s t := by
  rcases arrive_next bs s t h with rfl | ⟨-, hx⟩
  · exact .refl _
  · have hr : Untouched s (s.receiveBytes bs) := ⟨rfl, rfl, rfl, rfl, rfl, rfl, rfl, rfl⟩
    exact hr.trans (runPhases_untouched 5 _ t hx).1

theorem DataOnly.untouched {s t : State} (h : DataOnly s t) : Untouched s t := by
  rw [h.frame]
  exact ⟨rfl, rfl, rfl, rfl, rfl, rfl, rfl, rfl⟩

theorem exec_transactional_untouched (i : Instr) (s t : State) (hi : isTransactional i = true)
    (h : exec i s = .next t) : Untouched s t := by
  refine exec_transactional_keeps (Untouched s) ?exchange ?finish ?forget i s t hi (.refl s) h
  case exchange => exact fun r u v hu hx => hu.trans (transact_untouched r u v hx)
  case finish => exact fun _ _ hu => hu.trans ⟨rfl, rfl, rfl, rfl, rfl, rfl, rfl, rfl⟩
  case forget => exact fun _ hu => hu.trans ⟨rfl, rfl, rfl, rfl, rfl, rfl, rfl, rfl⟩

/-- Every instruction but CONNECT and DISCONNECT leaves the lasting registers and the open transport alone. -/
theorem exec_untouched (i : Instr) (s t : State) (hc : i ≠ .connect) (hd : i ≠ .disconnect) (h : exec i s = .next t) :
    Untouched s t := by
  rcases instr_kinds i with hi | hi | rfl | rfl | ⟨-, ⟨d, r, c, hx⟩ | ⟨bs, hx⟩⟩
  · exact (exec_pure_next i s t hi h).untouched
  · exact exec_transactional_untouched i s t hi h
  · exact absurd rfl hc
  · exact absurd rfl hd
  · exact sendFrame_untouched d r c s t (hx ▸ h)
  · exact arrive_untouched bs s t (hx ▸ h)

/-- All CONNECT can do (R181). -/
theorem execConnect_next (s t : State) (h : execConnect s = .next t) :
    s.connected = false ∧
      (t = s.dropOpen.openLink.finish .nothing ∨ t = s.dropOpen.raise .connectionFailure) := by
  unfold execConnect at h
  split at h
  · cases h
  · rename_i hc
    cases h
    refine ⟨by simpa using hc, ?_⟩
    split
    · exact .inl rfl
    · exact .inr rfl

/-- All DISCONNECT can do (R182). -/
theorem execDisconnect_next (s t : State) (h : execDisconnect s = .next t) :
    s.phase = .idle ∧ (t = s.closeLink.finish .nothing ∨ s.connected = false ∧ t = s.finish .nothing) := by
  unfold execDisconnect at h
  split at h
  · cases h
  · rename_i hp
    cases h
    refine ⟨by simpa using hp, ?_⟩
    rcases hc : s.connected with _ | _
    · exact .inr ⟨rfl, rfl⟩
    · exact .inl rfl

/-- Settles O29: all instructions but two leave these registers alone, and those two move the connection only. -/
theorem lastingRegistersMoveOnlyAsGiven : Obligations.LastingRegistersMoveOnlyAsGiven := by
  intro i s t h
  by_cases hi : i ≠ .connect ∧ i ≠ .disconnect
  · have k := exec_untouched i s t hi.1 hi.2 h
    exact ⟨k.deviceId, k.baud, k.timeout, k.settle, k.inputs, fun _ _ => ⟨k.connected, k.link, k.opens⟩⟩
  · rcases (by tauto : i = .connect ∨ i = .disconnect) with rfl | rfl
    · obtain ⟨-, rfl | rfl⟩ := execConnect_next s t h <;> simp
    · obtain ⟨-, rfl | ⟨-, rfl⟩⟩ := execDisconnect_next s t h <;> simp

/-! ### Buffered input (R45, R173) -/

theorem transact_withRxq (r : Request) (s : State) (q : List Byte) (hr : s.ready = true) :
    transact r { s with env := { s.env with rxq := q } } = transact r s :=
  (transact_of_ready r _ (by exact hr)).trans (transact_of_ready r s hr).symm

/-- While connected, a transactional operation depends on its state through its exchange alone (R231 to R234). -/
theorem exec_transactional_congr (i : Instr) (s t : State) (hi : isTransactional i = true) (hs : s.connected = true)
    (ht : t.connected = true) (h : ∀ r, transact r s = transact r t) : exec i s = exec i t := by
  cases i with
  | rdregs | wrreg | setload => exact h _
  | rdrt =>
    change execRdrt s = execRdrt t
    rw [execRdrt_eq, execRdrt_eq, h]
  | getload =>
    change execGetload s = execGetload t
    rw [execGetload, execGetload, h]
  | rdinfo =>
    change readDeviceInfo _ _ s = readDeviceInfo _ _ t
    have ha : attempt aModel nModel s = attempt aModel nModel t := by rw [attempt, attempt, h]
    simp only [readDeviceInfo, hs, ht, ha, Bool.true_eq_false, if_false]
  | _ => cases hi

/-- Settles O27: all that a transactional operation does is exchanges, and the flush of the first empties the stream. -/
theorem staleInputIsIrrelevant : Obligations.StaleInputIsIrrelevant := by
  intro i s q hi hc hp hd
  exact exec_transactional_congr i _ s hi hc hc fun r => transact_withRxq r s q ((ready_iff s).mpr ⟨hc, hp, hd⟩)

/-! ### The ends of an exchange -/

/-- What every end of an exchange has in common: `PHASE` is Idle, `RXBUF` and `W` are as they were or hold what `RXLEN` and
`WCNT` count, and the words are written by a read that succeeds and by nothing else (R172, R175, R176). -/
structure Ended (s t : State) : Prop where
  idle  : t.phase = .idle
  rxbuf : t.rxbuf = s.rxbuf ∧ t.rxlen = s.rxlen ∨ t.rxlen = t.rxbuf.length ∧ t.rxlen ≤ 260
  words : t.w = s.w ∧ t.wcnt = s.wcnt ∧ (t.status = .ok → ∃ a v, s.request = .write a v) ∨
    t.status = .ok ∧ t.wcnt = t.w.length ∧ t.wcnt ≤ wordFileCapacity ∧ t.res = .words t.w

/-- A remainder has at most the 257 bytes of the longest payload and its checksum (R99, R155, R160). -/
theorem remainderLength_le (r : Request) (h : Header) : remainderLength r h ≤ 257 := by
  have := h.third.isLt
  cases r <;> simp only [remainderLength] <;> omega

/-- A validated response of `data` answers a write, or a read of another length, or is the words of a read (R157 to R160). -/
theorem validated_cases (r : Request) (data : List Byte) :
    (∃ a v, r = .write a v) ∨
    (∃ start count, r = .read start count ∧ data.length ≠ 2 * count.toNat) ∨
    (∃ start count ws, r = .read start count ∧ data = wordsToBytes ws ∧ ws.length = count.toNat) := by
  rcases r with ⟨start, count⟩ | ⟨a, v⟩
  · by_cases hn : data.length = 2 * count.toNat
    · obtain ⟨ws, rfl⟩ := exists_words_of_even data (by omega)
      rw [length_wordsToBytes] at hn
      exact .inr (.inr ⟨_, _, ws, rfl, rfl, by omega⟩)
    · exact .inr (.inl ⟨_, _, rfl, hn⟩)
  · exact .inl ⟨_, _, rfl⟩

/-- All an exchange can do when it ends without a refusal (R171, R172). -/
theorem finishExchange_next (s t : State) (hp : s.phase = .sent) (h : finishExchange s = .next t) : Ended s t := by
  rcases response_cases s hp with hl | ⟨hd, hh, he⟩ | ⟨hd, hh, he, hl⟩ | ⟨hd, data, c0, c1, g⟩
  · rw [exchange_shortHeader s hp hl] at h; cases h
    exact ⟨rfl, .inl (by simp), .inl (by simp)⟩
  · rw [exchange_exception s hd hp hh he] at h; cases h
    exact ⟨rfl, .inl (by simp), .inl (by simp)⟩
  · rw [exchange_shortRemainder s hd _ hp hh he rfl hl] at h; cases h
    exact ⟨rfl, .inl (by simp), .inl (by simp)⟩
  have hlen := g.length ▸ remainderLength_le s.request hd
  by_cases hc : crc16 (headerBytes hd ++ data) = fromLe16 c0 c1
  · rcases validated_cases s.request data with ⟨a, v, hr⟩ | ⟨a, n, hr, hn⟩ | ⟨a, n, ws, hr, rfl, hn⟩
    · rw [exchange_write s hd data c0 c1 a v g hc hr] at h; cases h
      exact ⟨rfl, .inr ⟨by simp, by simp; omega⟩, .inl (by simp [hr])⟩
    · rw [exchange_lengthMismatch s hd data c0 c1 a n g hc hr hn] at h; cases h
    · rw [exchange_read s hd ws c0 c1 a n g hc hr hn] at h; cases h
      rw [length_wordsToBytes] at hlen
      exact ⟨rfl, .inr ⟨by simp; omega, by simp; omega⟩, .inr ⟨rfl, rfl, by simp [wordFileCapacity]; omega, rfl⟩⟩
  · rw [exchange_badChecksum s hd data c0 c1 g hc] at h; cases h
    exact ⟨rfl, .inr ⟨by simp, by simp; omega⟩, .inl (by simp)⟩

/-- What a read that succeeds answers is what it leaves in the word file (R158, R175). -/
theorem transact_read_res (start count : Word) (s t : State) (h : transact (.read start count) s = .next t)
    (hok : t.status = .ok) : t.res = .words t.w := by
  rcases sendGated_next _ s t _ h with ⟨-, rfl⟩ | ⟨-, -, -, hx⟩
  · simp [errorStatus] at hok
  · rcases (finishExchange_next (s.sendRequest _ _) t rfl hx).words with ⟨-, -, hw⟩ | ⟨-, -, -, hres⟩
    · obtain ⟨a, v, hr⟩ := hw hok; cases hr
    · exact hres

/-! ### The invariant -/

/-- Settles O57: at reset nothing is counted, connected or buffered. -/
theorem resetMeetsInvariant : Obligations.ResetMeetsInvariant :=
  ⟨rfl, by decide, rfl, by decide, rfl, fun _ => rfl, .inl rfl⟩

theorem State.Inv.raise {s : State} (e : ErrorKind) (h : s.Inv) : (s.raise e).Inv := by
  cases e <;> exact h

theorem State.Inv.receiveBytes {s : State} (bs : List Byte) (hc : s.connected = true) (h : s.Inv) :
    (s.receiveBytes bs).Inv := by
  obtain ⟨hrx, hrxCap, hw, hwCap, hlink, -, hphase⟩ := h
  exact ⟨hrx, hrxCap, hw, hwCap, hlink, fun hn => absurd hn (by simp [hc]), hphase⟩

theorem State.Inv.sendRequest {s : State} (d : Byte) (r : Request) (hc : s.connected = true) (h : s.Inv) :
    (s.sendRequest d r).Inv := by
  obtain ⟨hrx, hrxCap, hw, hwCap, hlink, -, -⟩ := h
  exact ⟨hrx, hrxCap, hw, hwCap, hlink, fun _ => rfl, .inr ⟨rfl, hc⟩⟩

theorem State.Inv.finishExchange {s t : State} (hs : s.Inv) (hc : s.connected = true)
    (h : finishExchange s = .next t) : t.Inv := by
  obtain ⟨hrx, hrxCap, hw, hwCap, hlink, -, hphase⟩ := id hs
  rcases hphase with hp | ⟨hp, -⟩
  · cases (runPhases_idle 5 s hp).symm.trans h; exact hs
  have k := (runPhases_untouched 5 s t h).1
  obtain ⟨hidle, hrx', hw'⟩ := finishExchange_next s t hp h
  refine ⟨?_, ?_, ?_, ?_, ?_, ?_, .inl hidle⟩
  · rcases hrx' with ⟨hb, hl⟩ | ⟨hl, -⟩
    · rw [hb, hl, hrx]
    · exact hl
  · rcases hrx' with ⟨-, hl⟩ | ⟨-, hcap⟩ <;> omega
  · rcases hw' with ⟨hb, hl, -⟩ | ⟨-, hl, -, -⟩
    · rw [hb, hl, hw]
    · exact hl
  · rcases hw' with ⟨-, hl, -⟩ | ⟨-, -, hcap, -⟩ <;> omega
  · rw [k.connected, k.link, hlink]
  · exact fun hn => absurd (k.connected.symm.trans hn) (by simp [hc])

theorem State.Inv.transact {s t : State} (r : Request) (hs : s.Inv) (h : transact r s = .next t) : t.Inv := by
  rcases sendGated_next _ s t _ h with ⟨-, rfl⟩ | ⟨hc, -, -, hx⟩
  · exact hs.raise _
  · exact (hs.sendRequest _ r hc).finishExchange hc hx

theorem State.Inv.sendFrame {s t : State} {d : Byte} {r : Request} {c : Word} (hs : s.Inv)
    (h : sendFrame d r c s = .next t) : t.Inv := by
  rcases sendFrame_next d r c s t h with rfl | ⟨hc, rfl⟩
  · exact hs.raise _
  · exact hs.sendRequest d r hc

theorem State.Inv.arrive {s t : State} {bs : List Byte} (hs : s.Inv) (h : arrive bs s = .next t) : t.Inv := by
  rcases arrive_next bs s t h with rfl | ⟨hc, hx⟩
  · exact hs
  · exact (hs.receiveBytes bs hc).finishExchange hc hx

theorem State.Inv.dataOnly {s t : State} (hs : s.Inv) (h : DataOnly s t) : t.Inv := by
  obtain ⟨hframe, hwords⟩ := h
  obtain ⟨hrx, hrxCap, hw, hwCap, hrest⟩ := hs
  rw [hframe]
  rcases hwords with ⟨hb, hl⟩ | ⟨hl, hcap⟩
  · exact ⟨hrx, hrxCap, hb ▸ hl ▸ hw, hl ▸ hwCap, hrest⟩
  · exact ⟨hrx, hrxCap, hl, hcap, hrest⟩

theorem State.Inv.exec_transactional {s t : State} {i : Instr} (hi : isTransactional i = true) (hs : s.Inv)
    (h : exec i s = .next t) : t.Inv :=
  exec_transactional_keeps State.Inv (fun r _ _ hu hx => hu.transact r hx) (fun _ _ hu => hu) (fun _ hu => hu) i s t hi hs h

theorem State.Inv.dropOpen {s : State} (h : s.Inv) : s.dropOpen.Inv := by
  unfold State.dropOpen
  split <;> exact h

theorem State.Inv.execConnect {s t : State} (hs : s.Inv) (h : execConnect s = .next t) : t.Inv := by
  obtain ⟨hc, rfl | rfl⟩ := execConnect_next s t h
  · obtain ⟨hrx, hrxCap, hw, hwCap, -, -, hphase⟩ := hs.dropOpen
    have hidle : s.dropOpen.phase = .idle := hphase.resolve_right fun hsent => by simp [hc] at hsent
    exact ⟨hrx, hrxCap, hw, hwCap, rfl, nofun, .inl hidle⟩
  · exact hs.dropOpen.raise _

theorem State.Inv.execDisconnect {s t : State} (hs : s.Inv) (h : execDisconnect s = .next t) : t.Inv := by
  obtain ⟨hp, rfl | ⟨-, rfl⟩⟩ := execDisconnect_next s t h
  · obtain ⟨hrx, hrxCap, hw, hwCap, -, -, -⟩ := hs
    exact ⟨hrx, hrxCap, hw, hwCap, rfl, fun _ => rfl, .inl hp⟩
  · exact hs

/-- Every instruction keeps the invariant. -/
theorem State.Inv.exec {s t : State} {i : Instr} (hs : s.Inv) (h : exec i s = .next t) : t.Inv := by
  rcases instr_kinds i with hi | hi | rfl | rfl | ⟨-, ⟨d, r, c, hx⟩ | ⟨bs, hx⟩⟩
  · exact hs.dataOnly (exec_pure_next i s t hi h)
  · exact hs.exec_transactional hi h
  · exact hs.execConnect h
  · exact hs.execDisconnect h
  · exact hs.sendFrame (hx ▸ h)
  · exact hs.arrive (hx ▸ h)

theorem State.Inv.rejectBytes {s t : State} {p : Port} {bs : List Byte} (hs : s.Inv) (h : rejectBytes p bs s = .next t) :
    t.Inv := by
  cases p with
  | command => cases h
  | request => cases h
  | readResponse => exact hs.arrive h
  | writeResponse => exact hs.arrive h

theorem State.Inv.configure {s : State} (c : ConfigWrite) (h : s.Inv) : (s.configure c).Inv := by
  cases c <;> exact h

/-- Settles O58: the input that a step takes is an instruction, loose bytes or a host write, and each keeps the invariant. -/
theorem stepKeepsInvariant : Obligations.StepKeepsInvariant := by
  intro s t hs h
  have hi : s.takeInput.Inv := hs
  rcases hx : s.inputs with _ | ⟨⟨p, bs⟩ | c, rest⟩ <;> simp only [step, hx] at h
  · cases h; exact hs
  · rcases hd : decode p bs with _ | i <;> simp only [hd] at h
    · exact hi.rejectBytes h
    · exact hi.exec h
  · cases h; exact hi.configure c

/-! ### The reset values (R47, R280) -/

/-- Settles O54: each field of the reset state, and a step without an input. -/
theorem resetStateAsSpecified : Obligations.ResetStateAsSpecified :=
  ⟨rfl, rfl, rfl, rfl, rfl, rfl, rfl, by norm_num [State.reset], rfl, rfl⟩

/-! ### No register of an earlier operation matters (R20, R171, R237) -/

/-- Two engines that agree on all that lasts, in whatever phase each is (compare `SameLasting`). -/
def SameAround (s t : State) : Prop := SameLasting s.handOver t.handOver

theorem SameLasting.around {s t : State} (h : SameLasting s t) : SameAround s t := by
  obtain ⟨hconn, hid, hbaud, htime, hsettle, henv, hfree, -, -⟩ := h
  exact ⟨hconn, hid, hbaud, htime, hsettle, henv, hfree, rfl, rfl⟩

theorem SameAround.env_eq {s t : State} (h : SameAround s t) : s.env = t.env := by
  obtain ⟨-, -, -, -, -, henv, -⟩ := h
  exact henv

theorem SameAround.free_eq {s t : State} (h : SameAround s t) : s.free = t.free := by
  obtain ⟨-, -, -, -, -, -, hfree, -⟩ := h
  exact hfree

theorem SameLasting.connected_eq {s t : State} (h : SameLasting s t) : s.connected = t.connected := h.1

theorem SameLasting.idle_left {s t : State} (h : SameLasting s t) : s.phase = .idle := by
  obtain ⟨-, -, -, -, -, -, -, hps, -⟩ := h
  exact hps

theorem SameLasting.idle_right {s t : State} (h : SameLasting s t) : t.phase = .idle := by
  obtain ⟨-, -, -, -, -, -, -, -, hpt⟩ := h
  exact hpt

theorem SameLasting.free_eq {s t : State} (h : SameLasting s t) : s.free = t.free := h.around.free_eq

/-- Free values used up on both sides. -/
theorem SameLasting.useFree {s t : State} (h : SameLasting s t) (n : Nat) :
    SameLasting { s with free := s.free + n } { t with free := t.free + n } := by
  obtain ⟨hconn, hid, hbaud, htime, hsettle, henv, hfree, hps, hpt⟩ := h
  exact ⟨hconn, hid, hbaud, htime, hsettle, henv, congrArg (· + n) hfree, hps, hpt⟩

theorem SameAround.rxReadBytes {s t : State} (h : SameAround s t) (n : Nat) : s.rxReadBytes n = t.rxReadBytes n := by
  simp only [State.rxReadBytes, State.available, State.nextBurst, h.env_eq, h.free_eq]

theorem SameAround.rxReadState {s t : State} (h : SameAround s t) (n : Nat) :
    SameAround (s.rxReadState n) (t.rxReadState n) := by
  have henv : (s.rxReadState n).env = (t.rxReadState n).env ∧ (s.rxReadState n).free = (t.rxReadState n).free := by
    simp only [State.rxReadState, State.dropBurst, State.available, State.nextBurst, h.env_eq, h.free_eq]
    split <;> simp
  obtain ⟨hconn, hid, hbaud, htime, hsettle, -, -, -, -⟩ := h
  exact ⟨by simpa using hconn, by simpa using hid, by simpa using hbaud, by simpa using htime, by simpa using hsettle,
    henv.1, henv.2, rfl, rfl⟩

theorem Received.of_same {s t : State} {h : Header} {data : List Byte} {c0 c1 : Byte} (g : Received s h data c0 c1)
    (ht : t.phase = .sent) (hr : s.request = t.request) (ha : SameAround s t) : Received t h data c0 c1 :=
  ⟨ht, ha.rxReadBytes 3 ▸ g.header, g.normal, hr ▸ g.length, (ha.rxReadState 3).rxReadBytes _ ▸ g.remainder⟩

/-- Two exchanges that wait for the same response to the same request end alike (R171). -/
theorem finishExchange_same (s t : State) (hs : s.phase = .sent) (ht : t.phase = .sent) (hr : s.request = t.request)
    (ha : SameAround s t) : SameForHost (finishExchange s) (finishExchange t) := by
  have hb := ha.rxReadBytes 3
  have ha3 := ha.rxReadState 3
  rcases response_cases s hs with hl | ⟨hd, hh, he⟩ | ⟨hd, hh, he, hl⟩ | ⟨hd, data, c0, c1, g⟩
  · rw [exchange_shortHeader s hs hl, exchange_shortHeader t ht (hb ▸ hl)]
    exact ⟨rfl, congrArg Config.freeResult ha3.free_eq, nofun, SameLasting.useFree ha3 1⟩
  · have hu := ha3.rxReadState 2
    rw [exchange_exception s hd hs hh he, exchange_exception t hd ht (hb ▸ hh) he]
    exact ⟨rfl, congrArg Config.freeResult hu.free_eq, fun _ => ⟨rfl, rfl⟩, SameLasting.useFree hu 1⟩
  · have hu := ha3.rxReadState (remainderLength s.request hd)
    rw [exchange_shortRemainder s hd _ hs hh he rfl hl,
      exchange_shortRemainder t hd _ ht (hb ▸ hh) he (congrArg (remainderLength · hd) hr.symm) (ha3.rxReadBytes _ ▸ hl)]
    exact ⟨rfl, congrArg Config.freeResult hu.free_eq, nofun, SameLasting.useFree hu 1⟩
  have g' := g.of_same ht hr ha
  have hu := ha3.rxReadState (data.length + 2)
  by_cases hc : crc16 (headerBytes hd ++ data) = fromLe16 c0 c1
  · rcases validated_cases s.request data with ⟨a, v, hq⟩ | ⟨a, n, hq, hn⟩ | ⟨a, n, ws, hq, rfl, hn⟩
    · rw [exchange_write s hd data c0 c1 a v g hc hq, exchange_write t hd data c0 c1 a v g' hc (hr ▸ hq)]
      exact ⟨rfl, rfl, nofun, hu⟩
    · rw [exchange_lengthMismatch s hd data c0 c1 a n g hc hq hn,
        exchange_lengthMismatch t hd data c0 c1 a n g' hc (hr ▸ hq) hn]
      exact rfl
    · rw [exchange_read s hd ws c0 c1 a n g hc hq hn, exchange_read t hd ws c0 c1 a n g' hc (hr ▸ hq) hn]
      rw [length_wordsToBytes] at hu
      exact ⟨rfl, rfl, nofun, hu⟩
  · rw [exchange_badChecksum s hd data c0 c1 g hc, exchange_badChecksum t hd data c0 c1 g' hc]
    exact ⟨rfl, congrArg Config.freeResult hu.free_eq, nofun, SameLasting.useFree hu 1⟩

theorem sameForHost_finish {s t : State} (h : SameLasting s t) (v : Result) :
    SameForHost (.next (s.finish v)) (.next (t.finish v)) :=
  ⟨rfl, rfl, nofun, h⟩

theorem sameForHost_raise {s t : State} (h : SameLasting s t) (e : ErrorKind) :
    SameForHost (.next (s.raise e)) (.next (t.raise e)) := by
  have hlast : SameLasting (s.raise e) (t.raise e) := by
    cases e <;> exact h.useFree 1
  refine ⟨by simp, by simp [h.free_eq], fun hp => ?_, hlast⟩
  cases e with
  | protocolException => exact ⟨rfl, rfl⟩
  | _ => cases hp

/-- Outcomes that the host cannot tell apart are the same refusal, or next states that agree. -/
theorem SameForHost.cases {o p : Out} (h : SameForHost o p) :
    (∃ q, o = .refused q ∧ p = .refused q) ∨
    ∃ u v, o = .next u ∧ p = .next v ∧ u.status = v.status ∧ u.res = v.res ∧ SameLasting u v := by
  rcases o with u | f | q
  · rcases p with v | f | q
    · obtain ⟨hst, hres, -, hlast⟩ := h
      exact .inr ⟨u, v, rfl, rfl, hst, hres, hlast⟩
    · cases f
    · exact h.elim
  · cases f
  · rcases p with v | f | q'
    · exact h.elim
    · cases f
    · obtain rfl : q = q' := h
      exact .inl ⟨q, rfl, rfl⟩

/-- The refusal of a check of the operands alone is the same on both sides. -/
theorem sameForHost_gate {o p : Out} (c : Prop) [Decidable c] (q : Refusal) (h : SameForHost o p) :
    SameForHost (if c then .refused q else o) (if c then .refused q else p) := by
  split
  · rfl
  · exact h

/-! ### Pure operations on two engines -/

theorem SameLasting.runVerify {s t : State} (h : SameLasting s t) (buf : List Byte) :
    SameLasting (s.runVerify buf) (t.runVerify buf) := by
  unfold State.runVerify
  split <;> exact h

theorem execParsehdr_same {s t : State} (h : SameLasting s t) (bs : List Byte) :
    SameForHost (execParsehdr bs s) (execParsehdr bs t) := by
  refine sameForHost_gate _ _ ?_
  split
  · exact sameForHost_finish h _
  · exact sameForHost_raise h _

/-- The words of an overlong payload are a function of the counter (log 16). -/
theorem execWords_same {s t : State} (h : SameLasting s t) (p : List Byte) :
    SameForHost (execWords p s) (execWords p t) := by
  unfold execWords
  split
  · rfl
  · split
    · exact sameForHost_finish h _
    · have hwords : s.freeWordFile = t.freeWordFile := by rw [State.freeWordFile, State.freeWordFile, h.free_eq]
      exact ⟨rfl, congrArg Result.words hwords, nofun, h.useFree 1⟩

theorem exec_pure_same {s t : State} (h : SameLasting s t) (i : Instr) (hi : isPure i = true) :
    SameForHost (exec i s) (exec i t) := by
  cases i with
  | crc16 | cvttemp | cvtflag | cvtascii | cvtver => exact sameForHost_finish h _
  | verify buf => exact sameForHost_finish (h.runVerify buf) _
  | bldrd d f a n => exact sameForHost_gate _ _ (sameForHost_gate _ _ (sameForHost_finish h _))
  | bldwr d a v => exact sameForHost_gate _ _ (sameForHost_finish h _)
  | parsehdr bs => exact execParsehdr_same h bs
  | words p => exact execWords_same h p
  | rmlookup | rmspan | asmrt =>
    simp only [exec, execRmlookup, execRmspan, execAsmrt]
    split
    · exact sameForHost_finish h _
    · rfl
  | cvtscale r k => exact sameForHost_gate _ _ (sameForHost_finish h _)
  | _ => cases hi

/-! ### CONNECT and DISCONNECT on two engines -/

theorem SameLasting.dropOpen {s t : State} (h : SameLasting s t) : SameLasting s.dropOpen t.dropOpen := by
  obtain ⟨hconn, hid, hbaud, htime, hsettle, henv, hfree, hps, hpt⟩ := h
  unfold State.dropOpen
  rw [← henv]
  split
  · exact ⟨hconn, hid, hbaud, htime, hsettle, rfl, hfree, hps, hpt⟩
  · exact ⟨hconn, hid, hbaud, htime, hsettle, rfl, congrArg (· + 1) hfree, hps, hpt⟩

theorem SameLasting.openLink {s t : State} (h : SameLasting s t) : SameLasting s.openLink t.openLink := by
  obtain ⟨hconn, hid, hbaud, htime, hsettle, henv, hfree, hps, hpt⟩ := h
  exact ⟨rfl, hid, hbaud, htime, hsettle, by simp [henv, hbaud, htime], hfree, hps, hpt⟩

theorem SameLasting.closeLink {s t : State} (h : SameLasting s t) : SameLasting s.closeLink t.closeLink := by
  obtain ⟨hconn, hid, hbaud, htime, hsettle, henv, hfree, hps, hpt⟩ := h
  exact ⟨rfl, hid, hbaud, htime, hsettle, by simp [henv], hfree, hps, hpt⟩

theorem execConnect_same {s t : State} (h : SameLasting s t) : SameForHost (execConnect s) (execConnect t) := by
  have hopen : s.opensNow = t.opensNow := by
    rw [State.opensNow, State.opensNow, h.around.env_eq, h.around.free_eq]
  unfold execConnect
  rw [h.connected_eq, hopen]
  refine sameForHost_gate _ _ ?_
  split
  · exact sameForHost_finish h.dropOpen.openLink _
  · exact sameForHost_raise h.dropOpen _

theorem execDisconnect_same {s t : State} (h : SameLasting s t) :
    SameForHost (execDisconnect s) (execDisconnect t) := by
  unfold execDisconnect
  rw [h.idle_left, h.idle_right, h.connected_eq]
  refine sameForHost_gate _ _ (sameForHost_finish ?_ _)
  split
  · exact h.closeLink
  · exact h

/-! ### Transactional operations on two engines -/

theorem transact_same {s t : State} (h : SameLasting s t) (r : Request) :
    SameForHost (transact r s) (transact r t) := by
  obtain ⟨hconn, hid, hbaud, htime, hsettle, henv, hfree, hps, hpt⟩ := id h
  rcases hc : s.connected with _ | _
  · rw [transact_notConnected r s hc, transact_notConnected r t (hconn ▸ hc)]
    exact sameForHost_raise h _
  have hc' : t.connected = true := hconn ▸ hc
  rcases hd : deviceIdOk s.cfgDeviceId with _ | _
  · rw [transact, transact, sendGated_deviceIdDomain _ s _ hc hps hd, sendGated_deviceIdDomain _ t _ hc' hpt (hid ▸ hd)]
    rfl
  · rw [transact_ready r s hc hps hd, transact_ready r t hc' hpt (hid ▸ hd)]
    refine finishExchange_same _ _ rfl rfl rfl ?_
    exact ⟨hconn, hid, hbaud, htime, hsettle, by simp [henv, hid], hfree, rfl, rfl⟩

theorem onSuccess_same {o p : Out} {k : State → Out} (h : SameForHost o p)
    (hk : ∀ u v, o = .next u → p = .next v → u.status = .ok → v.status = .ok → u.res = v.res → SameLasting u v →
      SameForHost (k u) (k v)) : SameForHost (onSuccess o k) (onSuccess p k) := by
  rcases h.cases with ⟨q, rfl, rfl⟩ | ⟨u, v, rfl, rfl, hst, hres, hlast⟩
  · exact h
  by_cases hok : u.status = .ok
  · have hok' : v.status = .ok := hst ▸ hok
    simp only [onSuccess, hok, hok', if_true]
    exact hk u v rfl rfl hok hok' hres hlast
  · have hok' : v.status ≠ .ok := hst ▸ hok
    simp only [onSuccess, hok, hok', if_false]
    exact h

/-- After a read, an operation that goes on from its words does so alike on both sides (R231, R234). -/
theorem onSuccess_read_same {s t : State} (h : SameLasting s t) (start count : Word) (k : State → Out)
    (hk : ∀ u v, u.w = v.w → SameLasting u v → SameForHost (k u) (k v)) :
    SameForHost (onSuccess (transact (.read start count) s) k) (onSuccess (transact (.read start count) t) k) := by
  refine onSuccess_same (transact_same h _) fun u v hu hv hok hok' hres hlast => hk u v ?_ hlast
  rw [transact_read_res _ _ s u hu hok, transact_read_res _ _ t v hv hok'] at hres
  exact Result.words.inj hres

/-- An attempt is refused alike on both sides, or gives the same block. -/
theorem attempt_same {s t : State} (h : SameLasting s t) (start count : Word) :
    (∃ q, attempt start count s = .refused q ∧ attempt start count t = .refused q) ∨
    ∃ block u v, attempt start count s = .next (block, u) ∧ attempt start count t = .next (block, v) ∧ SameLasting u v := by
  unfold attempt
  rcases (transact_same h (.read start count)).cases with ⟨q, hs, ht⟩ | ⟨u, v, hu, hv, hst, hres, hlast⟩
  · exact .inl ⟨q, by rw [hs], by rw [ht]⟩
  refine .inr ⟨if u.status = .ok then some u.w else none, u, v, by rw [hu], ?_, hlast⟩
  rw [hv]
  by_cases hok : u.status = .ok
  · have hok' : v.status = .ok := hst ▸ hok
    rw [transact_read_res _ _ s u hu hok, transact_read_res _ _ t v hv hok'] at hres
    simp [hok, hok', Result.words.inj hres]
  · have hok' : v.status ≠ .ok := hst ▸ hok
    simp [hok, hok']

theorem finishInfo_same {s t : State} (h : SameLasting s t) (hw sw : Fin 4) (m n v : Option (List Word)) :
    SameForHost (.next (finishInfo hw sw m n v s)) (.next (finishInfo hw sw m n v t)) := by
  unfold finishInfo
  split
  · exact sameForHost_finish h _
  · exact ⟨rfl, rfl, nofun, h.useFree 2⟩

theorem readDeviceInfo_same {s t : State} (h : SameLasting s t) (hw sw : Fin 4) :
    SameForHost (readDeviceInfo hw sw s) (readDeviceInfo hw sw t) := by
  unfold readDeviceInfo
  rw [h.connected_eq]
  split
  · exact sameForHost_raise h _
  rcases attempt_same h aModel nModel with ⟨q, hs, ht⟩ | ⟨m, s1, t1, hs, ht, h1⟩ <;> rw [hs, ht]
  · rfl
  dsimp only
  rcases attempt_same h1 aSerial nSerial with ⟨q, hs, ht⟩ | ⟨n, s2, t2, hs, ht, h2⟩ <;> rw [hs, ht]
  · rfl
  dsimp only
  rcases attempt_same h2 aVer nVer with ⟨q, hs, ht⟩ | ⟨v, s3, t3, hs, ht, h3⟩ <;> rw [hs, ht]
  · rfl
  exact finishInfo_same h3 hw sw m n v

theorem exec_transactional_same {s t : State} (h : SameLasting s t) (i : Instr) (hi : isTransactional i = true) :
    SameForHost (exec i s) (exec i t) := by
  cases i with
  | rdregs | wrreg | setload => exact transact_same h _
  | rdrt =>
    change SameForHost (execRdrt s) (execRdrt t)
    rw [execRdrt_eq, execRdrt_eq]
    refine onSuccess_read_same h _ _ _ fun u v hw hlast => ?_
    rw [hw]
    split
    · exact sameForHost_finish hlast _
    · rfl
  | getload =>
    refine onSuccess_read_same h aLoad 1 _ fun u v hw hlast => ?_
    rw [hw]
    exact sameForHost_finish hlast _
  | rdinfo => exact readDeviceInfo_same h _ _
  | _ => cases hi

/-- Settles O31: the operations of the command port are the pure ones, CONNECT, DISCONNECT and the transactional ones, and none
looks at more than what `SameLasting` compares before it has written it itself. -/
theorem earlierResultsDoNotMatter : Obligations.EarlierResultsDoNotMatter := by
  intro i s t hi h
  rcases instr_kinds i with hk | hk | rfl | rfl | ⟨hk, -⟩
  · exact exec_pure_same h i hk
  · exact exec_transactional_same h i hk
  · exact execConnect_same h
  · exact execDisconnect_same h
  · exact absurd hi hk

end Sys2Proof.Machine
end

section
/-! What `RxRead` returns and what it leaves (R71). -/

namespace Sys2Proof.Machine

/-- No byte of the stream is lost or repeated: the bytes returned and those left are the stream, cut once. -/
theorem rxReadBytes_append_rxq (n : Nat) (s : State) :
    s.rxReadBytes n ++ (s.rxReadState n).env.rxq = s.env.rxq ++ s.nextBurst := by
  rw [State.rxReadState_rxq]
  exact List.take_append_drop n s.available

theorem length_rxReadBytes_of_le {n : Nat} {s : State} (h : n ≤ (s.env.rxq ++ s.nextBurst).length) :
    (s.rxReadBytes n).length = n :=
  List.length_take_of_le h

theorem rxReadBytes_of_length_le {n : Nat} {s : State} (h : (s.env.rxq ++ s.nextBurst).length ≤ n) :
    s.rxReadBytes n = s.env.rxq ++ s.nextBurst :=
  List.take_of_length_le h

/-- `rxReadState_eq` with the arrival that the read uses up. -/
theorem rxReadState_frame (n : Nat) (s : State) :
    s.rxReadState n = { s with
      free := (s.rxReadState n).free
      env := { s.env with rxq := (s.rxReadState n).env.rxq, bursts := s.env.bursts.drop 1 } } := by
  rw [← State.rxReadState_bursts n s]
  exact rxReadState_eq n s

/-- Settles O18: the read cuts the stream once, after at most `n` bytes, and its frame is that of the transport's read. -/
theorem rxReadTakesHeadOfStream : Obligations.RxReadTakesHeadOfStream := fun n s =>
  ⟨length_rxReadBytes_le n s, rxReadBytes_append_rxq n s, length_rxReadBytes_of_le,
    fun h => rxReadBytes_of_length_le h.le, rxReadState_frame n s⟩

end Sys2Proof.Machine
end

section
/-! Proofs about the encoding (30_encoding.md): decode after encode, what pure operations leave alone, response frames that arrive. -/

namespace Sys2Proof.Machine

/-! ### Decoding what was encoded (R90 to R99, R103, R104) -/

/-- Settles O59: the round trip of each instruction, put together. -/
theorem decodeInvertsEncode : Obligations.DecodeInvertsEncode := by
  intro i
  cases i with
  | crc16 m => exact Laws.RoundTrip.crc16 m
  | verify buf => exact Laws.RoundTrip.verify buf
  | bldrd d f a n => exact Laws.RoundTrip.bldrd d f a n
  | bldwr d a v => exact Laws.RoundTrip.bldwr d a v
  | parsehdr h => exact Laws.RoundTrip.parsehdr h
  | words p => exact Laws.RoundTrip.words p
  | connect => exact Laws.RoundTrip.connect
  | disconnect => exact Laws.RoundTrip.disconnect
  | rdregs a n => exact Laws.RoundTrip.rdregs a n
  | wrreg a v => exact Laws.RoundTrip.wrreg a v
  | rmlookup n => exact Laws.RoundTrip.rmlookup n
  | rmspan g => exact Laws.RoundTrip.rmspan g
  | cvtscale r k => exact Laws.RoundTrip.cvtscale r k
  | cvttemp r => exact Laws.RoundTrip.cvttemp r
  | cvtflag r => exact Laws.RoundTrip.cvtflag r
  | cvtascii ws => exact Laws.RoundTrip.cvtascii ws
  | cvtver r => exact Laws.RoundTrip.cvtver r
  | asmrt ws => exact Laws.RoundTrip.asmrt ws
  | rdrt => exact Laws.RoundTrip.rdrt
  | rdinfo => exact Laws.RoundTrip.rdinfo
  | setload on => exact Laws.RoundTrip.setload on
  | getload => exact Laws.RoundTrip.getload
  | reqRead d a n c => exact Laws.RoundTrip.reqRead d a n c
  | reqWrite d a v c => exact Laws.RoundTrip.reqWrite d a v c
  | rspRead d f data c => exact Laws.RoundTrip.rspRead d f data c
  | rspWrite d f a v c => exact Laws.RoundTrip.rspWrite d f a v c
  | rspExc d f code c => exact Laws.RoundTrip.rspExc d f code c

/-- Settles O60: the decoder run on each word. -/
theorem writtenWordsDecode : Obligations.WrittenWordsDecode :=
  ⟨rfl, rfl, rfl, rfl, rfl, rfl, rfl⟩

/-! ### Pure operations (R29, R104, R183) -/

/-- The state on another transport: `CONNECTED`, `PHASE` and the environment's side replaced. -/
def State.withTransport (c : Bool) (p : Phase) (e : Env) (s : State) : State :=
  { s with connected := c, phase := p, env := e }

/-- An outcome with its next state, if it has one, changed by `f`. -/
def mapNext (f : State → State) (o : Out) : Out :=
  match o with
  | .next t => .next (f t)
  | .fault q => .fault q
  | .refused q => .refused q

/-- A pure operation and the replacement of the transport can change places. -/
theorem exec_pure_withTransport (i : Instr) (s : State) (c : Bool) (p : Phase) (e : Env) (hi : isPure i = true) :
    exec i (s.withTransport c p e) = mapNext (State.withTransport c p e) (exec i s) := by
  cases i with
  | crc16 | cvttemp | cvtflag | cvtascii | cvtver => rfl
  | verify buf =>
    simp only [exec, execVerify, State.runVerify]
    split <;> rfl
  | bldrd d f a n =>
    simp only [exec, execBldrd]
    split
    · rfl
    · split <;> rfl
  | bldwr | rmlookup | rmspan | cvtscale | asmrt =>
    simp only [exec, execBldwr, execRmlookup, execRmspan, execCvtscale, execAsmrt]
    split <;> rfl
  | parsehdr bs =>
    simp only [exec, execParsehdr]
    split
    · rfl
    · split <;> rfl
  | words bs =>
    simp only [exec, execWords]
    split
    · rfl
    · split <;> rfl
  | _ => cases hi

/-- Settles O15: `exec_pure_withTransport`, with the replacement written out. -/
theorem pureOperationsIgnoreTransport : Obligations.PureOperationsIgnoreTransport :=
  fun i s c p e hi => exec_pure_withTransport i s c p e hi

/-! ### Response frames that a waiting exchange receives (R93 to R95, R99) -/

/-- `t` is `s` after arrivals and reads: the stream, the script of arrivals and the counter of free values may differ (R71). -/
def AfterReads (s t : State) : Prop :=
  t = { s with free := t.free, env := { s.env with rxq := t.env.rxq, bursts := t.env.bursts } }

theorem AfterReads.trans {s t u : State} (h : AfterReads s t) (k : AfterReads t u) : AfterReads s u := by
  unfold AfterReads at k
  rw [h] at k
  exact k

theorem afterReads_receiveBytes (bs : List Byte) (s : State) : AfterReads s (s.receiveBytes bs) := rfl

theorem afterReads_rxReadState (n : Nat) (s : State) : AfterReads s (s.rxReadState n) := rxReadState_eq n s

/-- A response is received by two reads, of the header and of what follows it. -/
theorem afterReads_response (bs : List Byte) (n : Nat) (s : State) :
    AfterReads s (((s.receiveBytes bs).rxReadState 3).rxReadState n) :=
  ((afterReads_receiveBytes bs s).trans (afterReads_rxReadState 3 _)).trans (afterReads_rxReadState n _)

/-- A response frame on an open transport goes to the exchange that waits (R44). -/
theorem exec_response_connected (i : Instr) (bs : List Byte) (s : State) (hc : s.connected = true)
    (hi : i.port = .readResponse ∨ i.port = .writeResponse) (hb : encode i = bs) :
    exec i s = finishExchange (s.receiveBytes bs) := by
  rw [exec_response i s hi, hb, arrive_connected bs s hc]

/-- The header of bytes that arrive on an empty stream is read first (R71, R151). -/
theorem rxReadBytes_receiveBytes_header (s : State) (h : Header) (rest : List Byte) (hq : s.env.rxq = []) :
    (s.receiveBytes (headerBytes h ++ rest)).rxReadBytes 3 = headerBytes h := by
  have hb : (s.receiveBytes (headerBytes h ++ rest)).env.rxq = headerBytes h ++ rest := by simp [hq]
  rw [rxReadBytes_buffered _ _ (by rw [hb]; simp), hb, List.take_left' (length_headerBytes h)]

/-- Settles O48: the frame is a whole response with a right checksum, to a read of as many words. -/
theorem readResponseFrameCompletesExchange : Obligations.ReadResponseFrameCompletesExchange := by
  intro s start d f ws hconn hp hq hlen hr hf bc c
  have hbc : bc.toNat = (wordsToBytes ws).length := by simp [bc]; omega
  have hcount : ws.length = (BitVec.ofNat 16 ws.length).toNat := by simp; omega
  have hframe : encode (.rspRead d f (wordsToBytes ws) c) =
      headerBytes ⟨d, f, bc⟩ ++ (wordsToBytes ws ++ [lo8 c, hi8 c]) := by
    simp [encode, rspReadBytes, headerBytes, le16, bc]
  have g := received_of_arrival s ⟨d, f, bc⟩ (wordsToBytes ws) (lo8 c) (hi8 c) hp hq hf
    (by simp only [remainderLength, hr, hbc])
  have hx := (exec_response_connected _ _ s hconn (.inl rfl) hframe).trans
    (exchange_read _ _ ws _ _ start _ g (fromLe16_le16 c).symm hr hcount)
  exact ⟨_, hx, by rw [afterReads_response _ _ s]; rfl⟩

/-- Settles O49: the frame is a whole response with a right checksum, to a write. -/
theorem writeResponseFrameCompletesExchange : Obligations.WriteResponseFrameCompletesExchange := by
  intro s d f a v a' v' hconn hp hq hr hf c
  have g := received_of_arrival s ⟨d, f, hi8 a'⟩ [lo8 a', hi8 v', lo8 v'] (lo8 c) (hi8 c) hp hq hf
    (by rw [hr]; rfl)
  have hx := (exec_response_connected (.rspWrite d f a' v' c) _ s hconn (.inr rfl) rfl).trans
    (exchange_write _ _ _ _ _ a v g (fromLe16_le16 c).symm hr)
  exact ⟨_, hx, by rw [afterReads_response _ _ s]; rfl⟩

/-- Settles O50: the frame's header has bit 7 set, and what follows it is not looked at. -/
theorem exceptionFrameEndsExchange : Obligations.ExceptionFrameEndsExchange := by
  intro s d f code c hconn hp hq hf
  have hh := rxReadBytes_receiveBytes_header s ⟨d, f, code⟩ [lo8 c, hi8 c] hq
  have hx := (exec_response_connected (.rspExc d f code c) _ s hconn (.inl rfl) rfl).trans
    (exchange_exception _ _ hp hh hf)
  exact ⟨_, _, hx, by rw [afterReads_response _ _ s]⟩

end Sys2Proof.Machine
end

section
/-! Proofs about the CRC unit (40_crc.md): its table and step are the bit-serial CRC, a closed message gives 0, what VERIFY answers. -/

namespace Sys2Proof.Machine

/-! ### The table step (R131, R132) -/

theorem lo8_toNat_eq_and (w : Word) : (lo8 w).toNat = (w &&& 0xFF).toNat := by
  rw [lo8_toNat, BitVec.toNat_and]
  exact (Nat.and_two_pow_sub_one_eq_mod w.toNat 8).symm

theorem crcStep_eq (acc : Word) (b : Byte) :
    crcStep acc b = (acc >>> 8) ^^^ crcTab.getD ((acc ^^^ b.setWidth 16) &&& 0xFF).toNat 0 := by
  rw [crcStep, crcTabRead, lo8_toNat_eq_and]

/-- Settles O1: the model's step is the step the obligation writes out. -/
theorem crc16FoldsTableStep : Obligations.Crc16FoldsTableStep := by
  intro m s
  simp only [← crcStep_eq]
  exact ⟨rfl, rfl⟩

/-! ### The bit-serial CRC (R130, R136 (a)) -/

/-- One round of the bit-serial CRC: shift right, and XOR with 0xA001 if the bit shifted out was 1. -/
def crcRound (c : Word) : Word := if c.getLsbD 0 then (c >>> 1) ^^^ 0xA001 else c >>> 1

theorem crcRound_of_bit_zero {c : Word} (h : c.getLsbD 0 = false) : crcRound c = c >>> 1 :=
  if_neg (Bool.eq_false_iff.mp h)

/-- A round is linear over XOR. -/
theorem crcRound_xor (x y : Word) : crcRound (x ^^^ y) = crcRound x ^^^ crcRound y := by
  unfold crcRound
  rw [BitVec.getLsbD_xor, BitVec.ushiftRight_xor_distrib]
  cases x.getLsbD 0 <;> cases y.getLsbD 0
  · rfl
  · exact BitVec.xor_assoc ..
  · show x >>> 1 ^^^ y >>> 1 ^^^ 0xA001 = x >>> 1 ^^^ 0xA001 ^^^ y >>> 1
    ac_rfl
  · calc x >>> 1 ^^^ y >>> 1 = x >>> 1 ^^^ y >>> 1 ^^^ (0xA001#16 ^^^ 0xA001#16) := BitVec.xor_zero.symm
      _ = x >>> 1 ^^^ 0xA001#16 ^^^ (y >>> 1 ^^^ 0xA001#16) := by ac_rfl

theorem iterate_crcRound_xor (n : Nat) (x y : Word) :
    crcRound^[n] (x ^^^ y) = crcRound^[n] x ^^^ crcRound^[n] y :=
  Function.Semiconj₂.iterate crcRound_xor n x y

/-- As long as the bits shifted out are 0, rounds are shifts. -/
theorem iterate_crcRound_of_low_bits_zero {n : Nat} {c : Word} (h : ∀ i < n, c.getLsbD i = false) :
    crcRound^[n] c = c >>> n := by
  induction n generalizing c with
  | zero => simp
  | succ n ih =>
    have hshift : ∀ i < n, (c >>> 1).getLsbD i = false := fun i hi => by
      rw [BitVec.getLsbD_ushiftRight]
      exact h (1 + i) (by omega)
    rw [Function.iterate_succ_apply, crcRound_of_bit_zero (h 0 n.succ_pos), ih hshift,
      ← BitVec.shiftRight_add, Nat.add_comm]

theorem crcTab_length : crcTab.length = 256 := by decide +kernel

/-- The printed table, entry by entry (R130). -/
theorem crcTabRead_eq_iterate_crcRound : ∀ i : Byte, crcTabRead i = crcRound^[8] (i.setWidth 16) := by
  decide +kernel

theorem getLsbD_xor_lo8 (w : Word) : ∀ i < 8, (w ^^^ (lo8 w).setWidth 16).getLsbD i = false := by
  intro i hi
  simp [lo8, hi, show i < 16 by omega]

theorem xor_byte_ushiftRight (w : Word) (b : Byte) : (w ^^^ b.setWidth 16) >>> 8 = w >>> 8 := by
  ext i hi
  simp

/-- Eight rounds split a word by linearity: its low byte gives the table entry, the rest is only shifted. -/
theorem iterate_crcRound_eight (w : Word) : crcRound^[8] w = (w >>> 8) ^^^ crcTabRead (lo8 w) := by
  have hw : w = (w ^^^ (lo8 w).setWidth 16) ^^^ (lo8 w).setWidth 16 := by
    rw [BitVec.xor_assoc, BitVec.xor_self, BitVec.xor_zero]
  calc crcRound^[8] w
      = crcRound^[8] (w ^^^ (lo8 w).setWidth 16) ^^^ crcRound^[8] ((lo8 w).setWidth 16) := by
        rw [← iterate_crcRound_xor, ← hw]
    _ = ((w ^^^ (lo8 w).setWidth 16) >>> 8) ^^^ crcTabRead (lo8 w) := by
        rw [iterate_crcRound_of_low_bits_zero (getLsbD_xor_lo8 w), crcTabRead_eq_iterate_crcRound]
    _ = (w >>> 8) ^^^ crcTabRead (lo8 w) := by rw [xor_byte_ushiftRight]

theorem crcStep_eq_iterate_crcRound (acc : Word) (b : Byte) :
    crcStep acc b = crcRound^[8] (acc ^^^ b.setWidth 16) := by
  rw [iterate_crcRound_eight, xor_byte_ushiftRight, crcStep]

/-- Settles O2: the table is compared entry by entry, and the step follows by linearity of the rounds. -/
theorem crcTableAndStepAreBitSerial : Obligations.CrcTableAndStepAreBitSerial :=
  ⟨crcTab_length, crcTabRead_eq_iterate_crcRound, crcStep_eq_iterate_crcRound⟩

/-! ### A message closed with its own checksum (R136 (b)) -/

/-- A step on the accumulator's own low byte meets table entry 0: it only shifts. -/
theorem crcStep_lo8 (c : Word) : crcStep c (lo8 c) = c >>> 8 := by
  rw [crcStep_eq_iterate_crcRound, iterate_crcRound_of_low_bits_zero (getLsbD_xor_lo8 c), xor_byte_ushiftRight]

theorem hi8_eq_lo8_ushiftRight (c : Word) : hi8 c = lo8 (c >>> 8) := by
  ext i hi
  simp [hi8, lo8]

theorem crc16_append (m n : List Byte) : crc16 (m ++ n) = n.foldl crcStep (crc16 m) :=
  List.foldl_append

theorem crc16_append_le16 (m : List Byte) : crc16 (m ++ le16 (crc16 m)) = 0#16 := by
  calc crc16 (m ++ le16 (crc16 m))
      = crcStep (crcStep (crc16 m) (lo8 (crc16 m))) (lo8 (crc16 m >>> 8)) := by
        rw [crc16_append, ← hi8_eq_lo8_ushiftRight]; rfl
    _ = crc16 m >>> 8 >>> 8 := by rw [crcStep_lo8, crcStep_lo8]
    _ = 0#16 := by rw [← BitVec.shiftRight_add, BitVec.ushiftRight_eq_zero le_rfl]

/-- Settles O3: two steps shift the accumulator out. -/
theorem crcOfClosedMessageIsZero : Obligations.CrcOfClosedMessageIsZero := by
  intro m s t h
  cases h
  exact ⟨_, rfl, congrArg Result.word (crc16_append_le16 m)⟩

/-! ### VERIFY (R134, R135) -/

theorem verify_of_length_lt {buf : List Byte} (h : buf.length < 3) : verify buf = false := if_pos h

theorem exec_verify_of_length_lt {buf : List Byte} (s : State) (h : buf.length < 3) :
    exec (.verify buf) s = .next { s with verifyOk := false, res := .flag false, status := .ok } := by
  simp only [exec, execVerify, State.runVerify, if_pos h, verify_of_length_lt h]
  rfl

theorem exec_verify_append (m : List Byte) (a b : Byte) (s : State) (h : m ≠ []) :
    exec (.verify (m ++ [a, b])) s = .next { s with
      acc := crc16 m
      verifyOk := decide (crc16 m = fromLe16 a b)
      res := .flag (decide (crc16 m = fromLe16 a b))
      status := .ok } := by
  simp only [exec, execVerify, runVerify_append s m a b h, verify_append m a b h]
  rfl

theorem eq_fromLe16_iff (w : Word) (a b : Byte) : w = fromLe16 a b ↔ w.toNat = a.toNat + 256 * b.toNat := by
  rw [← BitVec.toNat_inj, fromLe16_toNat]

/-- Settles O4: the two length ranges of R134. -/
theorem verifyComparesTrailingChecksum : Obligations.VerifyComparesTrailingChecksum := by
  intro buf s
  refine ⟨rfl, exec_verify_of_length_lt s, ?_⟩
  rintro m a b hm rfl
  simp only [← eq_fromLe16_iff]
  exact ⟨_, exec_verify_append m a b s hm⟩

/-- Settles O5: the checksum's two bytes alone are too short; after a nonempty message they are the checksum compared. -/
theorem verifyAcceptsOwnChecksum : Obligations.VerifyAcceptsOwnChecksum := by
  intro m s
  by_cases hm : m = []
  · subst hm
    exact ⟨_, exec_verify_of_length_lt s (by simp [le16]), rfl, rfl⟩
  · have hlen : 1 ≤ m.length := List.length_pos_iff.mpr hm
    exact ⟨_, exec_verify_append m _ _ s hm, by simp [hlen], by simp [hlen]⟩

end Sys2Proof.Machine
end

section
/-! Proofs about the frame encoder (41_frame_encode.md): the bytes of a built frame, BLDWR as BLDRD, the domains of the operands. -/

namespace Sys2Proof.Machine

/-! ### What BLDRD and BLDWR answer (R140 to R144) -/

theorem functionCodeOk_eq_true_iff (f : Byte) : functionCodeOk f = true ↔ f = 0x03 ∨ f = 0x06 := by
  simp [functionCodeOk, fcRead, fcWrite]

theorem exec_bldrd_admitted (d f : Byte) (x y : Word) (s : State) (hd : deviceIdOk d = true)
    (hf : functionCodeOk f = true) :
    exec (.bldrd d f x y) s = .next ((s.buildFrame d f x y).finish (.frame (frame8 d f x y))) := by
  simp [exec, execBldrd, hd, hf]

theorem exec_bldrd_deviceIdDomain (d f : Byte) (x y : Word) (s : State) (hd : deviceIdOk d = false) :
    exec (.bldrd d f x y) s = .refused .deviceIdDomain := if_pos hd

theorem exec_bldrd_functionCodeDomain (d f : Byte) (x y : Word) (s : State) (hd : deviceIdOk d = true)
    (hf : functionCodeOk f = false) : exec (.bldrd d f x y) s = .refused .functionCodeDomain := by
  simp [exec, execBldrd, hd, hf]

/-- BLDWR is BLDRD with function code 0x06, its refusals included: that code is admitted (R142, R143). -/
theorem exec_bldwr_eq_bldrd (d : Byte) (x y : Word) (s : State) :
    exec (.bldwr d x y) s = exec (.bldrd d 0x06 x y) s := rfl

/-- The bytes of a frame, with the checksum taken of its own first six (R140). -/
theorem frame8_toList_self (d f : Byte) (x y : Word) :
    (frame8 d f x y).toList = [d, f, hi8 x, lo8 x, hi8 y, lo8 y,
      lo8 (crc16 ((frame8 d f x y).toList.take 6)), hi8 (crc16 ((frame8 d f x y).toList.take 6))] := rfl

/-- Settles O6: both builders answer `frame8`, whose bytes are the ones listed. -/
theorem buildersSerialiseRequests : Obligations.BuildersSerialiseRequests := by
  intro d f x y s h1 h247
  have hd := (deviceIdOk_eq_true_iff d).mpr ⟨h1, h247⟩
  have hread : (f = 0x03 ∨ f = 0x06) → exec (.bldrd d f x y) s =
      .next ((s.buildFrame d f x y).finish (.frame (frame8 d f x y))) := fun hf =>
    exec_bldrd_admitted d f x y s hd ((functionCodeOk_eq_true_iff f).mpr hf)
  refine ⟨crc16 (frame6 d f x y), frame8 d f x y, frame8_toList_self d f x y, hread, ?_⟩
  rintro rfl
  exact (exec_bldwr_eq_bldrd d x y s).trans (hread (.inr rfl))

/-- Settles O7: the frame is the six message bytes and their checksum, which VERIFY accepts in any state (R135). -/
theorem builtFramesAreStatelessAndVerify : Obligations.BuiltFramesAreStatelessAndVerify := by
  intro d f x y s s' h1 h247 hf
  have hbuilt := fun s => exec_bldrd_admitted d f x y s ((deviceIdOk_eq_true_iff d).mpr ⟨h1, h247⟩)
    ((functionCodeOk_eq_true_iff f).mpr hf)
  obtain ⟨u, hu, hres, -⟩ := verifyAcceptsOwnChecksum (frame6 d f x y)
    ((s.buildFrame d f x y).finish (.frame (frame8 d f x y)))
  have hbytes : (frame8 d f x y).toList = frame6 d f x y ++ le16 (crc16 (frame6 d f x y)) := frame8_toList d f x y
  exact ⟨exec_bldwr_eq_bldrd d x y s, _, _, frame8 d f x y, u, hbuilt s, hbuilt s', rfl, rfl, hbytes ▸ hu, hres⟩

/-- Settles O8: the builders test their operands, and RDREGS and WRREG test the configured device id at the gate. -/
theorem requestDomainsAreRefused : Obligations.RequestDomainsAreRefused := by
  intro d f x y s
  refine ⟨fun h => ?deviceId, fun h1 h247 h3 h6 => ?functionCode, fun hc hp h => ?configured⟩
  case deviceId =>
    have hd := deviceIdOk_eq_false d h
    exact ⟨exec_bldrd_deviceIdDomain d f x y s hd,
      (exec_bldwr_eq_bldrd d x y s).trans (exec_bldrd_deviceIdDomain d _ x y s hd)⟩
  case functionCode =>
    have hf : functionCodeOk f = false := by
      rw [← Bool.not_eq_true, functionCodeOk_eq_true_iff]
      exact not_or.mpr ⟨h3, h6⟩
    exact exec_bldrd_functionCodeDomain d f x y s ((deviceIdOk_eq_true_iff d).mpr ⟨h1, h247⟩) hf
  case configured =>
    have hrefused := fun go => sendGated_deviceIdDomain s.cfgDeviceId s go hc hp (deviceIdOk_eq_false _ h)
    exact ⟨hrefused _, hrefused _⟩

end Sys2Proof.Machine
end

section
/-! Proofs about the frame decoder (42_frame_decode.md): PARSEHDR, WORDS, and the ways a response fails to be a result. -/

namespace Sys2Proof.Machine

/-! ### PARSEHDR (R151) -/

theorem exec_parsehdr_headerBytes (h : Header) (s : State) :
    exec (.parsehdr (headerBytes h)) s = .next ({ s with hdr := h }.finish (.header h)) := rfl

theorem exec_parsehdr_of_length_lt {bs : List Byte} (s : State) (h : bs.length < 3) :
    exec (.parsehdr bs) s = .next (s.raise .communicationTimeout) := by
  simp only [exec, execParsehdr, if_neg h.le.not_gt, headerOf_eq_none bs h]

theorem exec_parsehdr_of_lt_length {bs : List Byte} (s : State) (h : 3 < bs.length) :
    exec (.parsehdr bs) s = .refused .headerTooLong := if_pos h

/-- Settles O9: the three length ranges of R151. -/
theorem parsehdrSplitsHeader : Obligations.ParsehdrSplitsHeader := by
  intro bs s
  refine ⟨rfl, ?_, fun hlen => ⟨_, _, exec_parsehdr_of_length_lt s hlen⟩, exec_parsehdr_of_lt_length s⟩
  rintro b0 b1 b2 rfl
  exact exec_parsehdr_headerBytes ⟨b0, b1, b2⟩ s

/-! ### WORDS (R158, R159) -/

/-- A word is its high byte times 256 plus its low byte (R61). -/
theorem toNat_eq_hi8_lo8 (w : Word) : w.toNat = (hi8 w).toNat * 256 + (lo8 w).toNat := by
  rw [← fromBe16_toNat, fromBe16_be16]

/-- The bytes at `2 * i` and `2 * i + 1` are the high and the low byte of word `i` (R63). -/
theorem wordsToBytes_getD (ws : List Word) (i : Nat) :
    (wordsToBytes ws).getD (2 * i) 0 = hi8 (ws.getD i 0) ∧ (wordsToBytes ws).getD (2 * i + 1) 0 = lo8 (ws.getD i 0) := by
  induction ws generalizing i with
  | nil => simpa only [wordsToBytes_nil, List.getD_nil] using ⟨rfl, rfl⟩
  | cons w ws ih =>
    cases i with
    | zero => exact ⟨rfl, rfl⟩
    | succ i => exact ih i

theorem exec_words_of_odd {p : List Byte} (s : State) (h : p.length % 2 = 1) :
    exec (.words p) s = .refused .oddPayload := by
  simp only [exec, execWords, bytesToWords_of_odd p h]

theorem exec_words_wordsToBytes {ws : List Word} (s : State) (h : ws.length ≤ wordFileCapacity) :
    exec (.words (wordsToBytes ws)) s = .next (s.finishWords ws) := by
  simp only [exec, execWords, bytesToWords_wordsToBytes, if_pos h]

/-- More words than `W` holds (log 16). -/
theorem exec_words_overlong {ws : List Word} (s : State) (h : wordFileCapacity < ws.length) :
    exec (.words (wordsToBytes ws)) s = .next { s.finishWords s.freeWordFile with free := s.free + 1 } := by
  simp only [exec, execWords, bytesToWords_wordsToBytes, if_neg h.not_ge]

/-- Settles O10: an even payload is the bytes of its words, which WORDS gives back. -/
theorem wordsAreBigEndianPairs : Obligations.WordsAreBigEndianPairs := by
  intro p n s hp hn
  obtain ⟨ws, rfl⟩ := exists_words_of_even p (by omega)
  have hlen : ws.length = n := by rw [length_wordsToBytes] at hp; omega
  subst hlen
  refine ⟨rfl, ws, rfl, fun i _ => ?_, exec_words_wordsToBytes s hn⟩
  obtain ⟨hhi, hlo⟩ := wordsToBytes_getD ws i
  rw [hhi, hlo]
  exact toNat_eq_hi8_lo8 _

/-- An answered read is a whole response, received (R71, R153 to R156). -/
theorem ReadAnswered.received {s : State} {start count : Word} {h : Header} {data : List Byte}
    (ha : ReadAnswered s start count h data) :
    Received (s.sendRequest s.cfgDeviceId (.read start count)) h data
      (lo8 (crc16 (headerBytes h ++ data))) (hi8 (crc16 (headerBytes h ++ data))) := by
  obtain ⟨hheader, hnormal, hcount, hrest⟩ := ha
  exact ⟨rfl, hheader, hnormal, congrArg (· + 2) hcount, hrest⟩

/-- Settles O11: WORDS on either side of its domain, and a read exchange that ends in a length mismatch. -/
theorem payloadLengthsOutsideDomain : Obligations.PayloadLengthsOutsideDomain := by
  refine ⟨fun p s => exec_words_of_odd s, ?overlong, ?mismatch⟩
  case overlong =>
    intro p s heven hlong
    obtain ⟨ws, rfl⟩ := exists_words_of_even p heven
    have hcap : wordFileCapacity < ws.length := by
      rw [length_wordsToBytes] at hlong
      exact (by omega : 127 < ws.length)
    exact ⟨s.freeWordFile, s.free + 1, length_freeWordFile_le s, exec_words_overlong s hcap⟩
  case mismatch =>
    intro s start count h data hready ha hne
    exact (transact_of_ready (.read start count) s hready).trans
      (exchange_lengthMismatch _ h data _ _ start count ha.received (fromLe16_le16 _).symm rfl hne)

/-! ### Exchanges that end in an error (R152 to R156, R160) -/

/-- Settles O21: the end of an exchange with a short header. -/
theorem shortHeaderTimesOut : Obligations.ShortHeaderTimesOut := by
  intro i r s hi hready hshort
  exact ⟨_, _, (exec_exchange i r s hi hready).trans (exchange_shortHeader _ rfl hshort)⟩

/-- Settles O22: the end of an exchange with an exception response. -/
theorem exceptionResponseRaisesProtocolException : Obligations.ExceptionResponseRaisesProtocolException := by
  intro i r s h hi hready hheader hexc
  exact ⟨_, _, (exec_exchange i r s hi hready).trans (exchange_exception _ h rfl hheader hexc)⟩

/-- Settles O23: the end of an exchange with a short remainder. -/
theorem shortRemainderTimesOut : Obligations.ShortRemainderTimesOut := by
  intro i r s h n hi hready hheader hnormal hn hshort
  have hrest : remainderLength r h = n := hn.symm
  exact ⟨_, _, (exec_exchange i r s hi hready).trans
    (exchange_shortRemainder _ h n rfl hheader hnormal hrest hshort)⟩

/-- Settles O24: the end of an exchange with a whole response whose last two bytes are not its checksum. -/
theorem wrongChecksumRaisesCrcMismatch : Obligations.WrongChecksumRaisesCrcMismatch := by
  intro i r s h data c0 c1 n hi hready hheader hnormal hn hlen hrest hcrc
  subst hlen
  have g : Received (s.sendRequest s.cfgDeviceId r) h data c0 c1 := ⟨rfl, hheader, hnormal, hn.symm, hrest⟩
  exact ⟨_, _, (exec_exchange i r s hi hready).trans
    (exchange_badChecksum _ h data c0 c1 g ((eq_fromLe16_iff _ c0 c1).not.mpr hcrc))⟩

end Sys2Proof.Machine
end

section
/-! Proofs about transactions (43_transaction.md): CONNECT and DISCONNECT, the request frames, what a transition of an exchange does,
how an exchange ends, what it sends and what it leaves in the word file. -/

namespace Sys2Proof.Machine

/-! ### CONNECT and DISCONNECT (R181, R182) -/

theorem exec_connect_opens {s : State} (hc : s.connected = false) (ho : s.opensNow = true) :
    exec .connect s = .next (s.dropOpen.openLink.finish .nothing) := by
  simp [exec, execConnect, hc, ho]

theorem exec_connect_fails {s : State} (hc : s.connected = false) (ho : s.opensNow = false) :
    exec .connect s = .next (s.dropOpen.raise .connectionFailure) := by
  simp [exec, execConnect, hc, ho]

theorem opensNow_scripted {s : State} {b : Bool} {more : List Bool} (h : s.env.opens = b :: more) : s.opensNow = b := by
  simp [State.opensNow, h]

theorem dropOpen_scripted {s : State} {b : Bool} {more : List Bool} (h : s.env.opens = b :: more) :
    s.dropOpen = { s with env := { s.env with opens := more } } := by
  simp [State.dropOpen, h]

theorem dropOpen_unscripted {s : State} (h : s.env.opens = []) : s.dropOpen = { s with free := s.free + 1 } := by
  simp [State.dropOpen, h]

/-- Settles O12: the gate, then the environment's answer, scripted or not. -/
theorem connectFollowsEnvironment : Obligations.ConnectFollowsEnvironment := by
  intro s
  refine ⟨rfl, fun hc => if_pos hc, ?opens, ?fails, ?unscripted⟩
  case opens =>
    intro more hc ho
    rw [exec_connect_opens hc (opensNow_scripted ho), dropOpen_scripted ho]
    rfl
  case fails =>
    intro more hc ho
    exact ⟨_, _, by rw [exec_connect_fails hc (opensNow_scripted ho), dropOpen_scripted ho]; rfl⟩
  case unscripted =>
    intro hc ho
    cases hb : s.opensNow with
    | true => exact .inl ⟨_, by rw [exec_connect_opens hc hb, dropOpen_unscripted ho]; rfl⟩
    | false => exact .inr ⟨_, _, by rw [exec_connect_fails hc hb, dropOpen_unscripted ho]; rfl⟩

theorem exec_disconnect_idle {s : State} (hp : s.phase = .idle) :
    exec .disconnect s = .next ((if s.connected then s.closeLink else s).finish .nothing) :=
  if_neg (not_not.mpr hp)

/-- Settles O13: between operations, with and without an open transport. -/
theorem disconnectAlwaysCloses : Obligations.DisconnectAlwaysCloses := by
  intro s hp
  refine ⟨rfl, fun hc => ?_, fun hc => ?_⟩
  · rw [exec_disconnect_idle hp, if_pos hc]; rfl
  · rw [exec_disconnect_idle hp, if_neg (by simp [hc])]; rfl

/-! ### Request frames (R171, R173, R174) -/

/-- A request frame that passes the gates is sent through `TXBUF`, into which it is built. -/
theorem exec_requestInstr_eq {s : State} {d : Byte} {v : Vector Byte 8} (r : Request) (hc : s.connected = true)
    (hp : s.phase = .idle) (h1 : 1 ≤ d.toNat) (h247 : d.toNat ≤ 247) (hv : v.toList = (requestFrame d r).toList) :
    exec (requestInstr d r) s = .next { s with
      acc := requestCrc d r, txbuf := v, request := r, phase := .sent
      env := { s.env with rxq := [], tx := s.env.tx ++ v.toList } } := by
  obtain rfl : v = requestFrame d r := Vector.toList_inj.mp hv
  exact exec_requestInstr d r s hc hp ((deviceIdOk_eq_true_iff d).mpr ⟨h1, h247⟩)

/-- Settles O16: both request frames carry their own checksum. -/
theorem requestFramesFlushAndSend : Obligations.RequestFramesFlushAndSend := by
  intro s d x y hc hp h1 h247
  refine ⟨?read, ?write⟩
  case read =>
    rintro _ v rfl hv
    exact exec_requestInstr_eq (.read x y) hc hp h1 h247 hv
  case write =>
    rintro _ v rfl hv
    exact exec_requestInstr_eq (.write x y) hc hp h1 h247 hv

/-! ### Exchanges that succeed (R175, R176) -/

/-- Settles O19: an answered read is a whole response with a right checksum. -/
theorem rdregsReturnsWords : Obligations.RdregsReturnsWords := by
  intro s start count h ws hready ha hlen
  exact (transact_of_ready (.read start count) s hready).trans
    (exchange_read _ h ws _ _ start count ha.received (fromLe16_le16 _).symm rfl hlen)

/-- An answered write is a whole response, received (R71, R153, R160). -/
theorem WriteAnswered.received {s : State} {address value : Word} {h : Header} {b3 b4 b5 : Byte}
    (ha : WriteAnswered s address value h b3 b4 b5) :
    Received (s.sendRequest s.cfgDeviceId (.write address value)) h [b3, b4, b5]
      (lo8 (crc16 (headerBytes h ++ [b3, b4, b5]))) (hi8 (crc16 (headerBytes h ++ [b3, b4, b5]))) := by
  obtain ⟨hheader, hnormal, hrest⟩ := ha
  exact ⟨rfl, hheader, hnormal, rfl, hrest⟩

/-- Settles O20: an answered write is a whole response with a right checksum. -/
theorem wrregAcceptsVerifiedEcho : Obligations.WrregAcceptsVerifiedEcho := by
  intro s address value h b3 b4 b5 hready ha
  exact (transact_of_ready (.write address value) s hready).trans
    (exchange_write _ h _ _ _ address value ha.received (fromLe16_le16 _).symm rfl)

/-! ### What one transition does (R171) -/

/-- The word file is as it was. -/
def WordFileKept (s t : State) : Prop := t.w = s.w ∧ t.wcnt = s.wcnt

theorem WordFileKept.trans {s t u : State} (h : WordFileKept s t) (k : WordFileKept t u) : WordFileKept s u :=
  ⟨k.1.trans h.1, k.2.trans h.2⟩

theorem stepSent_next {s t : State} (h : stepSent s = .next t) :
    (t.phase = .headerReceived ∨ t.phase = .failed) ∧ WordFileKept s t := by
  unfold stepSent at h
  split at h <;> cases h
  · exact ⟨.inl rfl, by simp [WordFileKept]⟩
  · exact ⟨.inr rfl, by simp [WordFileKept]⟩

theorem stepHeaderReceived_next {s t : State} (h : stepHeaderReceived s = .next t) :
    (t.phase = .exceptionDetected ∨ t.phase = .payloadReceived ∨ t.phase = .failed) ∧ WordFileKept s t := by
  simp only [stepHeaderReceived] at h
  split at h
  · cases h; exact ⟨.inl rfl, rfl, rfl⟩
  · split at h <;> cases h
    · exact ⟨.inr (.inr rfl), by simp [WordFileKept]⟩
    · exact ⟨.inr (.inl rfl), by simp [WordFileKept]⟩

theorem stepExceptionDetected_next {s t : State} (h : stepExceptionDetected s = .next t) :
    t.phase = .failed ∧ WordFileKept s t := by
  cases h
  exact ⟨rfl, by simp [WordFileKept]⟩

theorem stepPayloadReceived_next {s t : State} (h : stepPayloadReceived s = .next t) :
    (t.phase = .validated ∨ t.phase = .failed) ∧ WordFileKept s t := by
  simp only [stepPayloadReceived] at h
  split at h <;> cases h
  · exact ⟨.inl rfl, by simp [WordFileKept]⟩
  · exact ⟨.inr rfl, by simp [WordFileKept]⟩

theorem stepValidated_next {s t : State} (h : stepValidated s = .next t) :
    t.phase = .complete ∧ t.status = .ok ∧ ((∃ start count, s.request = .read start count) ∨ WordFileKept s t) := by
  unfold stepValidated at h
  split at h
  · rename_i start count hr
    split at h
    · split at h <;> cases h
      exact ⟨rfl, rfl, .inl ⟨start, count, hr⟩⟩
    · cases h
  · cases h
    exact ⟨rfl, rfl, .inr ⟨rfl, rfl⟩⟩

/-- Settles O25: the row of the table for each phase. -/
theorem phaseTakesTableEdges : Obligations.PhaseTakesTableEdges := by
  intro s t h
  cases hp : s.phase with simp only [phaseStep, hp] at h
  | idle => cases h; simp [hp]
  | sent => obtain ⟨ht | ht, -⟩ := stepSent_next h <;> simp [ht]
  | headerReceived => obtain ⟨ht | ht | ht, -⟩ := stepHeaderReceived_next h <;> simp [ht]
  | exceptionDetected => simp [(stepExceptionDetected_next h).1]
  | payloadReceived => obtain ⟨ht | ht, -⟩ := stepPayloadReceived_next h <;> simp [ht]
  | validated => simp [(stepValidated_next h).1]
  | complete | failed => cases h; simp

/-! ### How a waiting exchange ends (R172, R178, R300) -/

/-- Settles O26: every way a response can come in has an end in Idle, but for a validated read of another length. -/
theorem exchangeEndsInIdle : Obligations.ExchangeEndsInIdle := by
  intro s hp
  rcases response_cases s hp with hl | ⟨h, hh, he⟩ | ⟨h, hh, he, hl⟩ | ⟨h, data, c0, c1, g⟩
  · exact .inl ⟨_, exchange_shortHeader s hp hl, rfl⟩
  · exact .inl ⟨_, exchange_exception s h hp hh he, rfl⟩
  · exact .inl ⟨_, exchange_shortRemainder s h _ hp hh he rfl hl, rfl⟩
  by_cases hc : crc16 (headerBytes h ++ data) = fromLe16 c0 c1
  · rcases validated_cases s.request data with ⟨a, v, hr⟩ | ⟨a, n, hr, hn⟩ | ⟨a, n, ws, hr, rfl, hn⟩
    · exact .inl ⟨_, exchange_write s h data c0 c1 a v g hc hr, rfl⟩
    · exact .inr ⟨⟨a, n, hr⟩, exchange_lengthMismatch s h data c0 c1 a n g hc hr hn⟩
    · exact .inl ⟨_, exchange_read s h ws c0 c1 a n g hc hr hn, rfl⟩
  · exact .inl ⟨_, exchange_badChecksum s h data c0 c1 g hc, rfl⟩

/-! ### What is sent (R177, R178, R232) -/

/-- `t` is a ready engine for the device of `s` that has sent `bs` since. -/
structure Sent (s t : State) (bs : List Byte) : Prop where
  ready    : t.ready = true
  deviceId : t.cfgDeviceId = s.cfgDeviceId
  tx       : t.env.tx = s.env.tx ++ bs

theorem Sent.trans {s t u : State} {bs cs : List Byte} (h : Sent s t bs) (k : Sent t u cs) : Sent s u (bs ++ cs) :=
  ⟨k.ready, k.deviceId.trans h.deviceId, by rw [k.tx, h.tx, List.append_assoc]⟩

/-- A whole exchange sends its request, and the engine is ready for the next one. -/
theorem transact_sent {r : Request} {s t : State} (hs : s.ready = true) (h : transact r s = .next t) :
    Sent s t (requestFrame s.cfgDeviceId r).toList := by
  obtain ⟨hc, -, hd⟩ := (ready_iff s).mp hs
  have hu := transact_untouched r s t h
  rw [transact_of_ready r s hs] at h
  have hidle := (finishExchange_next _ t rfl h).idle
  obtain ⟨-, -, htx⟩ := runPhases_untouched 5 _ t h
  exact ⟨(ready_iff t).mpr ⟨hu.connected.trans hc, hidle, hu.deviceId ▸ hd⟩, hu.deviceId, htx⟩

theorem onSuccess_sent {r : Request} {k : State → Out} {s t : State} (hs : s.ready = true)
    (hk : ∀ u v, k u = .next v → v.env.tx = u.env.tx) (h : onSuccess (transact r s) k = .next t) :
    t.env.tx = s.env.tx ++ (requestFrame s.cfgDeviceId r).toList := by
  rcases onSuccess_next _ _ t h with ⟨u, hu, -, hku⟩ | ⟨ht, -⟩
  · exact (hk u t hku).trans (transact_sent hs hu).tx
  · exact (transact_sent hs ht).tx

theorem finishInfo_env (hw sw : Fin 4) (m n v : Option (List Word)) (s : State) :
    (finishInfo hw sw m n v s).env = s.env := by
  unfold finishInfo
  split <;> rfl

theorem readDeviceInfo_sent {hw sw : Fin 4} {s t : State} (hs : s.ready = true) (h : readDeviceInfo hw sw s = .next t) :
    t.env.tx = s.env.tx ++ ((requestFrame s.cfgDeviceId (.read aModel nModel)).toList ++
      ((requestFrame s.cfgDeviceId (.read aSerial nSerial)).toList ++
        (requestFrame s.cfgDeviceId (.read aVer nVer)).toList)) := by
  obtain ⟨m, s1, n, s2, v, s3, h1, h2, h3, rfl⟩ := readDeviceInfo_next hw sw s t ((ready_iff s).mp hs).1 h
  have k1 := transact_sent hs (attempt_next _ _ _ _ _ h1).1
  have k2 := transact_sent k1.ready (attempt_next _ _ _ _ _ h2).1
  have k3 := transact_sent k2.ready (attempt_next _ _ _ _ _ h3).1
  rw [k2.deviceId, k1.deviceId] at k3
  rw [k1.deviceId] at k2
  rw [finishInfo_env]
  exact (k1.trans (k2.trans k3)).tx

/-- Settles O28: each operation is one exchange, RDINFO three. -/
theorem eachExchangeSendsOneRequest : Obligations.EachExchangeSendsOneRequest := by
  intro i s t hs h
  refine ⟨?one, ?info⟩
  case one =>
    rintro r (hi | ⟨rfl, rfl⟩ | ⟨rfl, rfl⟩ | ⟨rfl, rfl⟩ | ⟨rfl, rfl⟩)
    · rw [exec_exchange i r s hi hs, ← transact_of_ready r s hs] at h
      exact (transact_sent hs h).tx
    · refine onSuccess_sent hs (fun u v hk => ?_) ((execRdrt_eq s).symm.trans h)
      split at hk <;> cases hk
      rfl
    · refine onSuccess_sent hs (fun u v hk => ?_) h
      cases hk
      rfl
    · exact (transact_sent (r := .write aLoad 1) hs h).tx
    · exact (transact_sent (r := .write aLoad 0) hs h).tx
  case info =>
    rintro rfl
    exact readDeviceInfo_sent hs h

/-! ### What stays in the word file (R175, R176, R261) -/

/-- Only the decode of a validated read writes the word file, and it completes the exchange with `STATUS` OK. -/
theorem phaseStep_wordFile {s t : State} (h : phaseStep s = .next t) :
    WordFileKept s t ∨ t.phase = .complete ∧ t.status = .ok ∧ ∃ start count, s.request = .read start count := by
  cases hp : s.phase with simp only [phaseStep, hp] at h
  | idle | complete | failed => cases h; exact .inl ⟨rfl, rfl⟩
  | sent => exact .inl (stepSent_next h).2
  | headerReceived => exact .inl (stepHeaderReceived_next h).2
  | exceptionDetected => exact .inl (stepExceptionDetected_next h).2
  | payloadReceived => exact .inl (stepPayloadReceived_next h).2
  | validated =>
    obtain ⟨hc, hok, hr | hw⟩ := stepValidated_next h
    · exact .inr ⟨hc, hok, hr⟩
    · exact .inl hw

theorem runPhases_wordFile {k : Nat} {s t : State} (h : runPhases k s = .next t) :
    WordFileKept s t ∨ t.status = .ok ∧ ∃ start count, s.request = .read start count := by
  induction k generalizing s with
  | zero => cases h; exact .inl ⟨rfl, rfl⟩
  | succ k ih =>
    by_cases hp : s.phase = .idle
    · cases (runPhases_idle _ s hp).symm.trans h; exact .inl ⟨rfl, rfl⟩
    cases hu : phaseStep s with
    | next u =>
      rw [runPhases_next k s u hp hu] at h
      have hreq := (phaseStep_untouched s u hu).2.1
      rcases phaseStep_wordFile hu with hw | ⟨hc, hok, hr⟩
      · rcases ih h with hw' | ⟨hok, hr⟩
        · exact .inl (hw.trans hw')
        · exact .inr ⟨hok, hreq ▸ hr⟩
      · refine .inr ⟨?_, hr⟩
        cases k with
        | zero => cases h; exact hok
        | succ k => rw [runPhases_end k u (.inr hc)] at h; cases h; exact hok
    | fault f => cases f
    | refused q => rw [runPhases_refused k s q hp hu] at h; cases h

theorem WordFileKept.raise (e : ErrorKind) (s : State) : WordFileKept s (s.raise e) := by simp [WordFileKept]

/-- A whole exchange writes the word file only as a read that ends OK. -/
theorem transact_wordFile {r : Request} {s t : State} (h : transact r s = .next t) :
    WordFileKept s t ∨ t.status = .ok ∧ ∃ start count, r = .read start count := by
  rcases sendGated_next _ s t _ h with ⟨-, rfl⟩ | ⟨-, -, -, hx⟩
  · exact .inl (.raise _ s)
  · exact runPhases_wordFile hx

theorem transact_write_wordFile {a v : Word} {s t : State} (h : transact (.write a v) s = .next t) :
    WordFileKept s t := by
  rcases transact_wordFile h with hw | ⟨-, _, _, hr⟩
  · exact hw
  · cases hr

/-- The one error of the pure operations: a header of fewer than three bytes (R151). -/
theorem exec_pure_error {i : Instr} {s t : State} (hi : isPure i = true) (h : exec i s = .next t)
    (hne : t.status ≠ .ok) : t = s.raise .communicationTimeout := by
  cases i with
  | crc16 | verify | cvttemp | cvtflag | cvtascii | cvtver => cases h; exact absurd rfl hne
  | bldrd d f a n =>
    simp only [exec, execBldrd] at h
    split at h
    · cases h
    · split at h <;> cases h
      exact absurd rfl hne
  | bldwr | rmlookup | rmspan | cvtscale | asmrt =>
    simp only [exec, execBldwr, execRmlookup, execRmspan, execCvtscale, execAsmrt] at h
    split at h <;> cases h
    exact absurd rfl hne
  | parsehdr bs =>
    simp only [exec, execParsehdr] at h
    split at h
    · cases h
    · split at h <;> cases h
      · exact absurd rfl hne
      · rfl
  | words p =>
    obtain ⟨ws, n, -, rfl, -⟩ := execWords_next p s t h
    exact absurd rfl hne
  | _ => cases hi

/-- An operation over an exchange that ends in an error is that exchange (R231, R234, R236). -/
theorem onSuccess_error {o : Out} {k : State → Out} {t : State} (hk : ∀ u v, k u = .next v → v.status = .ok)
    (h : onSuccess o k = .next t) (hne : t.status ≠ .ok) : o = .next t := by
  rcases onSuccess_next o k t h with ⟨u, -, -, hku⟩ | ⟨ht, -⟩
  · exact absurd (hk u t hku) hne
  · exact ht

/-- A transactional operation that ends in an error is one exchange that does, RDINFO apart (R231 to R236). -/
theorem exec_transactional_error {i : Instr} {s t : State} (hi : isTransactional i = true) (hinfo : i ≠ .rdinfo)
    (h : exec i s = .next t) (hne : t.status ≠ .ok) : ∃ r, transact r s = .next t := by
  cases i with
  | rdregs | wrreg | setload => exact ⟨_, h⟩
  | rdrt =>
    refine ⟨_, onSuccess_error (fun u v hk => ?_) ((execRdrt_eq s).symm.trans h) hne⟩
    split at hk <;> cases hk
    rfl
  | getload =>
    refine ⟨_, onSuccess_error (fun u v hk => ?_) h hne⟩
    cases hk
    rfl
  | rdinfo => exact absurd rfl hinfo
  | _ => cases hi

/-- An instruction that ends in an error, RDINFO apart, writes no register word (R175, R176, R261). -/
theorem exec_error_wordFile {i : Instr} {s t : State} (hinfo : i ≠ .rdinfo) (h : exec i s = .next t)
    (hne : t.status ≠ .ok) : WordFileKept s t := by
  rcases instr_kinds i with hi | hi | rfl | rfl | ⟨-, ⟨d, r, c, hx⟩ | ⟨bs, hx⟩⟩
  · rw [exec_pure_error hi h hne]
    exact .raise _ s
  · obtain ⟨r, hr⟩ := exec_transactional_error hi hinfo h hne
    exact (transact_wordFile hr).resolve_right fun hok => hne hok.1
  · obtain ⟨-, rfl | rfl⟩ := execConnect_next s t h <;> simp [WordFileKept]
  · obtain ⟨-, rfl | ⟨-, rfl⟩⟩ := execDisconnect_next s t h <;> exact ⟨rfl, rfl⟩
  · rcases sendFrame_next d r c s t (hx ▸ h) with rfl | ⟨-, rfl⟩
    · exact .raise _ s
    · exact ⟨rfl, rfl⟩
  · rcases arrive_next bs s t (hx ▸ h) with rfl | ⟨-, hrun⟩
    · exact ⟨rfl, rfl⟩
    · exact (runPhases_wordFile hrun).resolve_right fun hok => hne hok.1

/-- Errors move `CONNECTED` in no case: CONNECT fails without opening, DISCONNECT ends in none (R181, R182). -/
theorem exec_error_connected {i : Instr} {s t : State} (h : exec i s = .next t) (hne : t.status ≠ .ok) :
    t.connected = s.connected := by
  by_cases hc : i = .connect
  · subst hc
    obtain ⟨-, rfl | rfl⟩ := execConnect_next s t h
    · exact absurd rfl hne
    · simp
  by_cases hd : i = .disconnect
  · subst hd
    obtain ⟨-, rfl | ⟨-, rfl⟩⟩ := execDisconnect_next s t h <;> exact absurd rfl hne
  exact (exec_untouched i s t hc hd h).connected

/-- Settles O30: errors of every kind of instruction, and the two operations that are one write exchange. -/
theorem wordFileSurvivesErrorsAndWrites : Obligations.WordFileSurvivesErrorsAndWrites := by
  rintro i s t h (⟨hinfo, hne⟩ | hi)
  · obtain ⟨hw, hn⟩ := exec_error_wordFile hinfo h hne
    exact ⟨hw, hn, exec_error_connected h hne⟩
  · obtain ⟨a, v, hx⟩ : ∃ a v, transact (.write a v) s = .next t := by
      rcases hi with ⟨a, v, rfl⟩ | ⟨on, rfl⟩ <;> exact ⟨_, _, h⟩
    obtain ⟨hw, hn⟩ := transact_write_wordFile hx
    exact ⟨hw, hn, (transact_untouched _ s t hx).connected⟩

end Sys2Proof.Machine
end

section
/-! Proofs about the register map (44_register_map.md): the entries by index, the order of the map and what holds of each entry, the span of
a group. -/

namespace Sys2Proof.Machine

/-! ### The entries by index (R193, R194, R199) -/

/-- The fifteen entries that R193 fills, by their index; the OPEN ones come after them in the index table (log 30). -/
def sourceEntries : List RegDef := deviceInfoEntries ++ (realTimeEntries ++ controlEntries)

theorem indexTable_eq : indexTable = sourceEntries ++ openEntries := by
  simp only [indexTable, sourceEntries, List.append_assoc]

/-- An entry of the map is one that R193 fills or an OPEN one (R196). -/
theorem mem_regMap_iff (e : RegDef) : e ∈ regMap ↔ e ∈ sourceEntries ∨ e ∈ openEntries := by
  rw [← mem_indexTable, indexTable_eq, List.mem_append]

/-- An entry as a row of the table of R193, which has no unit label. -/
def tableRow (e : RegDef) : EntryName × Group × Word × Nat × Option Nat × Bool × Kind :=
  (e.name, e.group, e.address, e.length, e.scale, e.signed, e.kind)

theorem indexTable_of_sourceEntries {n : Nat} {e : RegDef} (h : sourceEntries[n]? = some e) :
    indexTable[(BitVec.ofNat 16 n).toNat]? = some e := by
  obtain ⟨hn, -⟩ := List.getElem?_eq_some_iff.1 h
  have hlen : sourceEntries.length = 15 := rfl
  have hword : (BitVec.ofNat 16 n).toNat = n := by
    rw [BitVec.toNat_ofNat]
    omega
  rw [hword, indexTable_eq, List.getElem?_append_left hn, h]

theorem exec_rmlookup_of_entry {index : Word} {e : RegDef} (s : State) (h : indexTable[index.toNat]? = some e) :
    exec (.rmlookup index) s = .next (s.finish (.entry e)) := by
  simp only [exec, execRmlookup, h]

theorem exec_rmlookup_beyond {index : Word} (s : State) (h : indexTable.length ≤ index.toNat) :
    exec (.rmlookup index) s = .refused .unknownEntry := by
  simp only [exec, execRmlookup, List.getElem?_eq_none h]

/-- Settles O32: the table of R193 is that of the source's entries, which stand first in the index table. -/
theorem rmlookupReturnsMapEntry : Obligations.RmlookupReturnsMapEntry := by
  refine ⟨fun s n name g a len k signed kind h => ?_,
    fun index s => ⟨rfl, fun e => exec_rmlookup_of_entry s, exec_rmlookup_beyond s⟩⟩
  change (sourceEntries.map tableRow)[n]? = _ at h
  rw [List.getElem?_map, Option.map_eq_some_iff] at h
  obtain ⟨e, hentry, hrow⟩ := h
  cases hrow
  exact ⟨e.unit, exec_rmlookup_of_entry s (indexTable_of_sourceEntries hentry)⟩

/-! ### The order of the map (R191, R192) -/

/-- The place of a group in the map's order is its index among the groups as R191 lists them. -/
theorem groupRank_eq_idxOf (g : Group) :
    groupRank g = [Group.deviceInfo, .realTime, .dailyStats, .historicalStats, .control].idxOf g := by
  cases g <;> rfl

theorem precedes_iff (e1 e2 : RegDef) : precedes e1 e2 = true ↔
    groupRank e1.group < groupRank e2.group ∨ e1.group = e2.group ∧ e1.address.toNat + e1.length ≤ e2.address.toNat := by
  simp [precedes]

/-- Two stretches of the map, one after the other, are in order when a rank of a group lies between them. -/
theorem pairwise_precedes_append {as bs : List RegDef} (n : Nat)
    (has : as.Pairwise (precedes · · = true)) (hbs : bs.Pairwise (precedes · · = true))
    (hlt : ∀ e ∈ as, groupRank e.group < n) (hle : ∀ e ∈ bs, n ≤ groupRank e.group) :
    (as ++ bs).Pairwise (precedes · · = true) :=
  List.pairwise_append.2 ⟨has, hbs, fun a ha b hb => (precedes_iff a b).2 (.inl ((hlt a ha).trans_le (hle b hb)))⟩

/-- OPEN entries stand after the real-time and before the control entries (R191, R196). -/
theorem openEntries_rank (e : RegDef) (he : e ∈ openEntries) : 2 ≤ groupRank e.group ∧ groupRank e.group < 4 := by
  rcases openEntries_group e he with hg | hg <;> rw [hg] <;> decide

theorem regMap_pairwise_precedes : regMap.Pairwise (precedes · · = true) := by
  have hopenControl : (openEntries ++ controlEntries).Pairwise (precedes · · = true) :=
    pairwise_precedes_append 4 ((mapOrdered_iff_pairwise _).1 openEntries_spec.2.2)
      ((mapOrdered_iff_pairwise _).1 (by decide)) (fun e he => (openEntries_rank e he).2) (by decide)
  have hopenControlRank : ∀ e ∈ openEntries ++ controlEntries, 2 ≤ groupRank e.group :=
    List.forall_mem_append.2 ⟨fun e he => (openEntries_rank e he).1, by decide⟩
  have hrest : (realTimeEntries ++ (openEntries ++ controlEntries)).Pairwise (precedes · · = true) :=
    pairwise_precedes_append 2 ((mapOrdered_iff_pairwise _).1 (by decide)) hopenControl (by decide) hopenControlRank
  have hrestRank : ∀ e ∈ realTimeEntries ++ (openEntries ++ controlEntries), 1 ≤ groupRank e.group :=
    List.forall_mem_append.2 ⟨by decide, fun e he => (hopenControlRank e he).trans' (by decide)⟩
  exact pairwise_precedes_append 1 ((mapOrdered_iff_pairwise _).1 (by decide)) hrest (by decide) hrestRank

/-! ### What holds of each entry (R190, R191) -/

theorem entryFieldsOk_iff (e : RegDef) : entryFieldsOk e = true ↔
    1 ≤ e.length ∧ e.length ≤ 127 ∧ (∀ k, e.scale = some k → k ≤ 2) ∧
      (e.signed = true → e.kind = .scaledSignedSplitByte) := by
  cases hscale : e.scale <;> cases hsigned : e.signed <;>
    simp [entryFieldsOk, hscale, hsigned, and_assoc, and_comm, and_left_comm]

/-- Every entry of the map meets R190: the source's by inspection, the OPEN ones by their check. -/
theorem regMap_entryFieldsOk (e : RegDef) (he : e ∈ regMap) : entryFieldsOk e = true := by
  rcases (mem_regMap_iff e).1 he with hs | ho
  · have hsource : ∀ e ∈ sourceEntries, entryFieldsOk e = true := by decide
    exact hsource e hs
  · exact (Bool.and_eq_true_iff.1 (openEntries_spec.1 e ho)).2

theorem openNamesOk_iff (es : List RegDef) :
    openNamesOk es = true ↔ (∀ e ∈ es, ∃ n, e.name = .extra n) ∧ (es.map (·.name)).Nodup := by
  have hextra (x : EntryName) : (match x with | .extra _ => true | _ => false) = true ↔ ∃ n, x = .extra n := by
    cases x <;> simp
  simp only [openNamesOk, Bool.and_eq_true, List.all_eq_true, decide_eq_true_eq]
  exact and_congr_left fun _ => forall₂_congr fun e _ => hextra e.name

/-- No name occurs twice: OPEN names are new ones (R191). -/
theorem regMap_names_nodup : (regMap.map (·.name)).Nodup := by
  obtain ⟨hnew, hopen⟩ := (openNamesOk_iff _).1 openEntries_spec.2.1
  have hsource : ∀ e ∈ sourceEntries, ∀ n, e.name ≠ .extra n := by
    simp [sourceEntries, deviceInfoEntries, realTimeEntries, controlEntries, regDef]
  rw [← (indexTable_perm.map _).nodup_iff, indexTable_eq, List.map_append, List.nodup_append]
  refine ⟨by decide, hopen, ?_⟩
  simp only [List.mem_map]
  rintro _ ⟨e1, h1, rfl⟩ _ ⟨e2, h2, rfl⟩ heq
  obtain ⟨n, hn⟩ := hnew e2 h2
  exact hsource e1 h1 n (heq.trans hn)

/-- Settles O34: `precedes` holds along the map, and with lengths of at least 1 it makes addresses of a group ascend. -/
theorem regmapIsOrderedWithoutOverlap : Obligations.RegmapIsOrderedWithoutOverlap := by
  have hfields := fun e he => (entryFieldsOk_iff e).1 (regMap_entryFieldsOk e he)
  refine ⟨regMap_pairwise_precedes.imp_of_mem fun {e1 e2} he1 _ hle => ?_, regMap_names_nodup, hfields, indexTable_perm⟩
  have hlen := (hfields e1 he1).1
  rw [← groupRank_eq_idxOf, ← groupRank_eq_idxOf]
  rcases (precedes_iff e1 e2).1 hle with hlt | ⟨hg, hend⟩
  · exact ⟨hlt.le, fun hg => absurd hlt (by simp [hg])⟩
  · exact ⟨by rw [hg], fun _ => ⟨by omega, hend⟩⟩

/-! ### The span of a group (R195) -/

theorem spanFirst_eq_min? (e : RegDef) (es : List RegDef) :
    ((e :: es).map (·.address.toNat)).min? = some (spanFirst e es) := by
  rw [List.map_cons, List.min?_cons', List.foldl_map]
  rfl

theorem spanLast_eq_max? (e : RegDef) (es : List RegDef) :
    ((e :: es).map fun x => x.address.toNat + x.length).max? = some (spanLast e es) := by
  rw [List.map_cons, List.max?_cons', List.foldl_map]
  rfl

/-- Entries `es` reach from `start` over `count` addresses: each lies within, one starts at the start, one ends at the end. -/
def SpannedBy (es : List RegDef) (start : Word) (count : Nat) : Prop :=
  (∀ e ∈ es, start.toNat ≤ e.address.toNat ∧ e.address.toNat + e.length ≤ start.toNat + count) ∧
  (∃ e ∈ es, e.address = start) ∧ ∃ e ∈ es, e.address.toNat + e.length = start.toNat + count

/-- The span of a list with entries: its least address, and the distance to its greatest `address + length`. -/
theorem spanOf_of_ne_nil {es : List RegDef} (hne : es ≠ []) :
    ∃ start count, spanOf es = some (start, count) ∧ SpannedBy es start count := by
  obtain ⟨e, rest, rfl⟩ := List.exists_cons_of_ne_nil hne
  obtain ⟨hfirst, hmin⟩ := List.min?_eq_some_iff.1 (spanFirst_eq_min? e rest)
  obtain ⟨hlast, hmax⟩ := List.max?_eq_some_iff.1 (spanLast_eq_max? e rest)
  simp only [List.mem_map, forall_exists_index, and_imp, forall_apply_eq_imp_iff₂] at hfirst hmin hlast hmax
  obtain ⟨x, hx, hxfirst⟩ := hfirst
  have hstart : x.address = BitVec.ofNat 16 (spanFirst e rest) := by rw [← hxfirst, BitVec.ofNat_toNat, BitVec.setWidth_eq]
  have hend : x.address.toNat + (spanLast e rest - spanFirst e rest) = spanLast e rest := by
    have := hmax x hx
    omega
  refine ⟨_, _, rfl, ?_⟩
  rw [← hstart, SpannedBy, hend]
  exact ⟨fun y hy => ⟨hxfirst ▸ hmin y hy, hmax y hy⟩, ⟨x, hx, rfl⟩, hlast⟩

theorem exec_rmspan_of_nil {g : Group} (s : State) (h : groupEntries g = []) :
    exec (.rmspan g) s = .refused .emptyGroup := by
  simp only [exec, execRmspan, h, spanOf]

theorem exec_rmspan_of_span {g : Group} {start : Word} {count : Nat} (s : State)
    (h : spanOf (groupEntries g) = some (start, count)) : exec (.rmspan g) s = .next (s.finish (.span start count)) := by
  simp only [exec, execRmspan, h]

/-- Settles O33: a group's list is the map's entries in the group, and `spanOf` spans it. -/
theorem rmspanCoversGroup : Obligations.RmspanCoversGroup := by
  refine fun g s => ⟨rfl, fun hnone => ?empty, fun ⟨e, he, hg⟩ => ?filled, rfl, rfl, rfl⟩
  case empty =>
    refine exec_rmspan_of_nil s (List.eq_nil_iff_forall_not_mem.2 fun e he => ?_)
    obtain ⟨hmem, hg⟩ := (mem_groupEntries g e).1 he
    exact hnone e hmem hg
  case filled =>
    obtain ⟨start, count, hspan, hwithin, hstart, hend⟩ :=
      spanOf_of_ne_nil (List.ne_nil_of_mem ((mem_groupEntries g e).2 ⟨he, hg⟩))
    simp only [mem_groupEntries, and_imp, and_assoc] at hwithin hstart hend
    exact ⟨start, count, hwithin, hstart, hend, exec_rmspan_of_span s hspan⟩

end Sys2Proof.Machine
end

section
/-! Proofs about the converter (45_converter.md): scaled values, packed temperatures, flags, ASCII blocks, version words, the real-time
block. -/

namespace Sys2Proof.Machine

/-! ### Scaled values (R211, R212) -/

theorem exec_cvtscale_of_le {k : Byte} (raw : Word) (s : State) (h : k.toNat ≤ 2) :
    exec (.cvtscale raw k) s = .next (s.finish (.decimal (cvtScale raw k.toNat))) := by
  simp only [exec, execCvtscale, scaleOk, decide_eq_false_iff_not, if_neg (not_not.2 h)]

theorem exec_cvtscale_of_lt {k : Byte} (raw : Word) (s : State) (h : 2 < k.toNat) :
    exec (.cvtscale raw k) s = .refused .scaleDomain := by
  simp only [exec, execCvtscale, scaleOk, decide_eq_false_iff_not, if_pos h.not_ge]

/-- Settles O35: the exponent's two ranges; results are compared by the rationals they stand for. -/
theorem cvtscaleKeepsRawWord : Obligations.CvtscaleKeepsRawWord := by
  refine fun raw k s => ⟨rfl, fun hk => ⟨exec_cvtscale_of_le raw s ?_, rfl⟩,
    fun raw' k' => sameDecimal_iff_value_eq _ _, exec_cvtscale_of_lt raw s⟩
  rcases hk with rfl | rfl | rfl <;> decide

/-! ### Packed temperatures and flags (R213, R214) -/

theorem eq_fromBe16_of_toNat {raw : Word} {hi lo : Byte} (h : raw.toNat = hi.toNat * 256 + lo.toNat) :
    raw = fromBe16 hi lo :=
  BitVec.eq_of_toNat_eq (h.trans (fromBe16_toNat hi lo).symm)

theorem exec_cvttemp_fromBe16 (hi lo : Byte) (s : State) :
    exec (.cvttemp (fromBe16 hi lo)) s = .next (s.finish (.temperatures (sext8 hi) (sext8 lo))) := by
  simp only [exec, execCvttemp, controllerTemp, batteryTemp, hi8_fromBe16, lo8_fromBe16]

/-- Settles O36: the word is its two bytes, which CVTTEMP sign-extends each. -/
theorem cvttempSignsEachByte : Obligations.CvttempSignsEachByte := by
  intro hi lo raw s h
  rw [eq_fromBe16_of_toNat h]
  exact ⟨rfl, exec_cvttemp_fromBe16 hi lo s⟩

theorem cvtFlag_eq_decide (raw : Word) : cvtFlag raw = decide (raw.toNat = 1) :=
  decide_eq_decide.2 BitVec.toNat_eq

/-- Settles O37: `cvt_flag` compares the whole word with 1. -/
theorem cvtflagIsOnForOneOnly : Obligations.CvtflagIsOnForOneOnly := by
  intro raw s
  rw [← cvtFlag_eq_decide]
  exact ⟨rfl, rfl⟩

/-! ### ASCII blocks (R215) -/

theorem trimTrailing_eq_rdropWhile (c : List Byte) : trimTrailing c = c.rdropWhile trimByte := rfl

theorem trimByte_iff (b : Byte) : trimByte b = true ↔ b.toNat ∈ [0x00, 0x09, 0x0A, 0x0B, 0x0C, 0x0D, 0x20] :=
  List.contains_iff_mem

/-- What trimming removes is a suffix of trim bytes. -/
theorem exists_trimmed_suffix (c : List Byte) : ∃ cut, c = trimTrailing c ++ cut ∧ ∀ b ∈ cut, trimByte b = true :=
  ⟨c.rtakeWhile trimByte, List.rdropWhile_append_rtakeWhile.symm, fun _ => List.mem_rtakeWhile_imp⟩

/-- Trimming removes the longest such suffix: what it keeps does not end in a trim byte. -/
theorem not_trimByte_of_getLast?_trimTrailing {c : List Byte} {b : Byte} (h : (trimTrailing c).getLast? = some b) :
    ¬ trimByte b = true := by
  rw [trimTrailing_eq_rdropWhile] at h
  obtain ⟨hne, rfl⟩ := List.mem_getLast?_eq_getLast h
  exact List.rdropWhile_last_not trimByte c hne

/-- Settles O38: CVTASCII trims the filtered bytes. -/
theorem cvtasciiDropsInvalidThenTrims : Obligations.CvtasciiDropsInvalidThenTrims := by
  intro ws s
  obtain ⟨cut, hsplit, hcut⟩ := exists_trimmed_suffix ((wordsToBytes ws).filter asciiByte)
  exact ⟨rfl, _, cut, hsplit, fun b hb => (trimByte_iff b).1 (hcut b hb),
    fun b hb => mt (trimByte_iff b).2 (not_trimByte_of_getLast?_trimTrailing hb), rfl⟩

/-! ### Version words (R216) -/

/-- The number that decimal digits stand for, the most significant digit first. -/
def digitsValue (t : Text) : Nat := t.foldl (fun n c => 10 * n + (c.toNat - 48)) 0

/-- `t` is the decimal numeral of `n`: digits only, at least one, no leading zero (R216). -/
structure IsNumeral (t : Text) (n : Nat) : Prop where
  value : digitsValue t = n
  digits : ∀ c ∈ t, 48 ≤ c.toNat ∧ c.toNat ≤ 57
  ne_nil : t ≠ []
  no_leading_zero : t.head? = some '0' → t = ['0']

theorem digitsValue_concat (t : Text) (c : Char) : digitsValue (t ++ [c]) = 10 * digitsValue t + (c.toNat - 48) := by
  simp only [digitsValue, List.foldl_append, List.foldl_cons, List.foldl_nil]

theorem decDigit_toNat {d : Nat} (hd : d < 10) : (decDigit d).toNat = 48 + d := by
  rw [decDigit, Char.toNat_ofNat, if_pos (.inl (by omega))]

theorem decDigit_isDigit {d : Nat} (hd : d < 10) : 48 ≤ (decDigit d).toNat ∧ (decDigit d).toNat ≤ 57 := by
  rw [decDigit_toNat hd]
  omega

theorem isNumeral_decDigit {d : Nat} (hd : d < 10) : IsNumeral [decDigit d] d where
  value := by
    have hvalue : digitsValue [decDigit d] = 10 * 0 + ((decDigit d).toNat - 48) := digitsValue_concat [] _
    rw [hvalue, decDigit_toNat hd]
    omega
  digits := List.forall_mem_singleton.2 (decDigit_isDigit hd)
  ne_nil := List.cons_ne_nil _ _
  no_leading_zero h := congrArg ([·]) (Option.some.inj h)

/-- The last digit after the numeral of the rest; the rest is not 0, or a zero would lead. -/
theorem IsNumeral.concat {t : Text} {n : Nat} (ht : IsNumeral t (n / 10)) (hn : 10 ≤ n) :
    IsNumeral (t ++ [decDigit (n % 10)]) n where
  value := by
    rw [digitsValue_concat, ht.value, decDigit_toNat (by omega)]
    omega
  digits := List.forall_mem_append.2 ⟨ht.digits, List.forall_mem_singleton.2 (decDigit_isDigit (by omega))⟩
  ne_nil := List.append_ne_nil_of_left_ne_nil ht.ne_nil _
  no_leading_zero h := by
    rw [List.head?_append_of_ne_nil _ ht.ne_nil] at h
    have hzero : n / 10 = 0 := ht.value.symm.trans (congrArg digitsValue (ht.no_leading_zero h))
    omega

/-- `dec` writes a byte in one, two or three digits. -/
theorem isNumeral_dec (x : Byte) : IsNumeral (dec x) x.toNat := by
  have hx := x.isLt
  simp only [dec]
  split_ifs with hone htwo
  · exact isNumeral_decDigit hone
  · exact (isNumeral_decDigit (by omega)).concat (by omega)
  · rw [← Nat.div_div_eq_div_mul x.toNat 10 10]
    exact ((isNumeral_decDigit (by omega)).concat (by omega)).concat (by omega)

theorem exec_cvtver (raw : Word) (s : State) : exec (.cvtver raw) s =
    .next (s.finish (.text (['V'] ++ dec (hi8 raw) ++ ['.'] ++ dec (lo8 raw)))) := by
  simp only [exec, execCvtver, cvtVer, List.append_assoc, List.cons_append, List.nil_append]

/-- Settles O39: the numerals are `dec` of the word's two bytes. -/
theorem cvtverPrintsMajorMinor : Obligations.CvtverPrintsMajorMinor := by
  intro raw s
  have hmajor := isNumeral_dec (hi8 raw)
  have hminor := isNumeral_dec (lo8 raw)
  exact ⟨rfl, dec (hi8 raw), dec (lo8 raw), exec_cvtver raw s,
    hmajor.value.trans (hi8_toNat raw), hminor.value.trans (lo8_toNat raw),
    List.forall_mem_append.2 ⟨hmajor.digits, hminor.digits⟩, hmajor.ne_nil, hminor.ne_nil,
    hmajor.no_leading_zero, hminor.no_leading_zero⟩

/-! ### The real-time block (R218) -/

theorem assembleRealtime_eq_none {ws : List Word} (h : ws.length ≠ 11) : assembleRealtime ws = none := by
  unfold assembleRealtime
  split
  · exact absurd rfl h
  · rfl

theorem exec_asmrt_of_length_ne {ws : List Word} (s : State) (h : ws.length ≠ 11) :
    exec (.asmrt ws) s = .refused .blockLength := by
  simp only [exec, execAsmrt, assembleRealtime_eq_none h]

/-- Settles O40: the fields of eleven words as R218 assembles them, and none for another number of words. -/
theorem asmrtMapsElevenWords : Obligations.AsmrtMapsElevenWords := by
  refine ⟨?_, fun ws s => exec_asmrt_of_length_ne s⟩
  intro w0 w1 w2 w3 w4 w5 w6 w7 w8 w9 w10 s
  rw [← cvtFlag_eq_decide]
  exact ⟨rfl, rfl⟩

end Sys2Proof.Machine
end

section
/-! Proofs about the composite operations (46_composite.md): RDRT and GETLOAD over one read, SETLOAD as a write, RDINFO over three
attempts. -/

namespace Sys2Proof.Machine

/-! ### One read and what is made of its words (R231, R234, R236) -/

theorem onSuccess_of_ok {u : State} (k : State → Out) (hok : u.status = .ok) : onSuccess (.next u) k = k u := if_pos hok

theorem onSuccess_of_error {u : State} (k : State → Out) (hne : u.status ≠ .ok) : onSuccess (.next u) k = .next u :=
  if_neg hne

/-- What an answered read leaves for the operation over it (R175). -/
theorem exec_rdregs_answered {s : State} {start count : Word} {h : Header} {ws : List Word} (hready : s.ready = true)
    (ha : ReadAnswered s start count h (wordsToBytes ws)) (hlen : ws.length = count.toNat) :
    ∃ u, exec (.rdregs start count) s = .next u ∧ u.status = .ok ∧ u.w = ws :=
  ⟨_, rdregsReturnsWords s start count h ws hready ha hlen, rfl, rfl⟩

/-- RDRT in terms of the operation RDREGS (R231). -/
theorem exec_rdrt_eq (s : State) :
    exec .rdrt s = onSuccess (exec (.rdregs 0x0100 11) s) fun u => execAsmrt u.w u := execRdrt_eq s

/-- GETLOAD in terms of the operation RDREGS (R234). -/
theorem exec_getload_eq (s : State) :
    exec .getload s = onSuccess (exec (.rdregs 0x010A 1) s) fun u => execCvtflag (u.w.getD 0 0) u := rfl

/-- SETLOAD in terms of the operation WRREG (R233). -/
theorem exec_setload_eq (on : Bool) (s : State) :
    exec (.setload on) s = exec (.wrreg 0x010A (if on then 1 else 0)) s := rfl

/-- After a success the end of an operation writes `RES` alone. -/
theorem finish_of_ok {u : State} (r : Result) (hok : u.status = .ok) : u.finish r = { u with res := r } := by
  rw [State.finish, hok]

theorem exists_reading {ws : List Word} (hlen : ws.length = 11) : ∃ r, assembleRealtime ws = some r :=
  match ws, hlen with
  | [_, _, _, _, _, _, _, _, _, _, _], _ => ⟨_, rfl⟩

/-- Settles O41: an answered read, then ASMRT of the eleven words it left. -/
theorem rdrtAssemblesRealTimeBlock : Obligations.RdrtAssemblesRealTimeBlock := by
  intro s h ws hready ha hlen
  obtain ⟨u, hu, hok, rfl⟩ := exec_rdregs_answered hready ha hlen
  obtain ⟨r, hr⟩ := exists_reading hlen
  have hasm : execAsmrt u.w u = .next (u.finish (.reading r)) := by rw [execAsmrt, hr]
  refine ⟨u, u.finish (.reading r), u.finish (.reading r), hu, rfl, hasm, ?_, finish_of_ok _ hok, rfl⟩
  rw [exec_rdrt_eq, hu, onSuccess_of_ok _ hok, hasm]

/-- Settles O42: an answered read of one word, then the flag test of it. -/
theorem getloadTestsLoadWord : Obligations.GetloadTestsLoadWord := by
  intro s h raw hready ha
  obtain ⟨u, hu, hok, hw⟩ := exec_rdregs_answered (ws := [raw]) hready ha rfl
  have hflag : execCvtflag (u.w.getD 0 0) u = .next (u.finish (.flag (cvtFlag raw))) := by rw [hw]; rfl
  refine ⟨u, hu, ?_, hok⟩
  rw [exec_getload_eq, hu, onSuccess_of_ok _ hok, hflag, finish_of_ok _ hok, cvtFlag_eq_decide]

/-- Settles O43: SETLOAD is a write exchange, so an answered write ends it. -/
theorem setloadWritesLoadRegister : Obligations.SetloadWritesLoadRegister := by
  intro s on
  refine ⟨rfl, exec_setload_eq on s, fun h b3 b4 b5 hready ha => ?_⟩
  have hwrite := wrregAcceptsVerifiedEcho s _ _ h b3 b4 b5 hready ha
  exact ⟨_, (exec_setload_eq on s).trans hwrite, rfl, rfl, (transact_write_wordFile hwrite).1⟩

/-- Settles O44: an operation over an exchange goes on from a success alone. -/
theorem compositesHandOnErrors : Obligations.CompositesHandOnErrors := by
  intro s
  refine ⟨?rdrtError, ?rdrtRefused, ?getloadError, ?getloadRefused, ?setload⟩
  case rdrtError => intro u hu hne; rw [exec_rdrt_eq, hu, onSuccess_of_error _ hne]
  case rdrtRefused => intro r hr; rw [exec_rdrt_eq, hr, onSuccess_refused]
  case getloadError => intro u hu hne; rw [exec_getload_eq, hu, onSuccess_of_error _ hne]
  case getloadRefused => intro r hr; rw [exec_getload_eq, hr, onSuccess_refused]
  case setload => exact fun on u hu _ => (exec_setload_eq on s).trans hu

/-! ### RDINFO as three attempts (R232, R235) -/

/-- The block that a read has for RDINFO: its words where it ended OK (R232). -/
def State.block (u : State) : Option (List Word) := if u.status = .ok then some u.w else none

theorem block_of_ok {u : State} (hok : u.status = .ok) : u.block = some u.w := if_pos hok

theorem block_of_error {u : State} (hne : u.status ≠ .ok) : u.block = none := if_neg hne

theorem attempt_of_next {start count : Word} {s u : State} (hu : exec (.rdregs start count) s = .next u) :
    attempt start count s = .next (u.block, u) := by
  have ht : transact (.read start count) s = .next u := hu
  rw [attempt, ht, State.block]

theorem attempt_of_refused {start count : Word} {s : State} {r : Refusal}
    (hr : exec (.rdregs start count) s = .refused r) : attempt start count s = .refused r :=
  (attempt_refused_iff start count s r).mpr hr

theorem asciiField_block (u : State) : asciiField u.block = if u.status = .ok then cvtAscii u.w else [] := by
  unfold State.block
  split <;> rfl

theorem versionField_block (i : Fin 4) (u : State) :
    versionField i u.block = if u.status = .ok then cvtVer (u.w.getD i.val 0) else [] := by
  unfold State.block
  split <;> rfl

/-- The end of RDINFO writes `RES` and `STATUS`, and at most `EXC_CODE`, `EXC_FC` and the free-value counter besides (R232; log 10). -/
theorem finishInfo_frame (hw sw : Fin 4) (m n v : Option (List Word)) (s : State) :
    finishInfo hw sw m n v s = { s with
      status := .ok, res := .info (deviceInfoOf hw sw m n v)
      excCode := (finishInfo hw sw m n v s).excCode, excFc := (finishInfo hw sw m n v s).excFc
      free := (finishInfo hw sw m n v s).free } := by
  unfold finishInfo
  split <;> rfl

/-- Where every attempt has a block, the end of RDINFO forgets no exception (R232). -/
theorem finishInfo_of_some (hw sw : Fin 4) (m n v : List Word) (s : State) :
    finishInfo hw sw (some m) (some n) (some v) s =
      s.finish (.info (deviceInfoOf hw sw (some m) (some n) (some v))) := rfl

/-- RDINFO goes on from an attempt to the next one, whatever the attempt ended in (R232). -/
theorem exec_rdinfo_of_reads {s u1 u2 u3 : State} (hc : s.connected = true)
    (h1 : exec (.rdregs 0x000C 8) s = .next u1) (h2 : exec (.rdregs 0x0018 8) u1 = .next u2)
    (h3 : exec (.rdregs 0x0014 4) u2 = .next u3) :
    exec .rdinfo s = .next (finishInfo Config.hwVerWord Config.swVerWord u1.block u2.block u3.block u3) := by
  have a1 : attempt aModel nModel s = _ := attempt_of_next h1
  have a2 : attempt aSerial nSerial u1 = _ := attempt_of_next h2
  have a3 : attempt aVer nVer u2 = _ := attempt_of_next h3
  simp [exec, execRdinfo, readDeviceInfo, hc, a1, a2, a3]

theorem exec_rdinfo_of_modelRefused {s : State} {r : Refusal} (hc : s.connected = true)
    (h1 : exec (.rdregs 0x000C 8) s = .refused r) : exec .rdinfo s = .refused r :=
  readDeviceInfo_refused _ _ s r hc h1

theorem exec_rdinfo_of_serialRefused {s u1 : State} {r : Refusal} (hc : s.connected = true)
    (h1 : exec (.rdregs 0x000C 8) s = .next u1) (h2 : exec (.rdregs 0x0018 8) u1 = .refused r) :
    exec .rdinfo s = .refused r := by
  have a1 : attempt aModel nModel s = _ := attempt_of_next h1
  have a2 : attempt aSerial nSerial u1 = _ := attempt_of_refused h2
  simp [exec, execRdinfo, readDeviceInfo, hc, a1, a2]

theorem exec_rdinfo_of_versionRefused {s u1 u2 : State} {r : Refusal} (hc : s.connected = true)
    (h1 : exec (.rdregs 0x000C 8) s = .next u1) (h2 : exec (.rdregs 0x0018 8) u1 = .next u2)
    (h3 : exec (.rdregs 0x0014 4) u2 = .refused r) : exec .rdinfo s = .refused r := by
  have a1 : attempt aModel nModel s = _ := attempt_of_next h1
  have a2 : attempt aSerial nSerial u1 = _ := attempt_of_next h2
  have a3 : attempt aVer nVer u2 = _ := attempt_of_refused h3
  simp [exec, execRdinfo, readDeviceInfo, hc, a1, a2, a3]

/-- Settles O45: where RDINFO stops at an attempt that is refused, and what it makes of three that are not. -/
theorem rdinfoAttemptsThreeBlocks : Obligations.RdinfoAttemptsThreeBlocks := by
  refine ⟨?refused, ?answered⟩
  case refused =>
    exact fun s r hc => ⟨exec_rdinfo_of_modelRefused hc, fun u1 h1 => ⟨exec_rdinfo_of_serialRefused hc h1,
      fun u2 h2 => exec_rdinfo_of_versionRefused hc h1 h2⟩⟩
  case answered =>
    intro s u1 u2 u3 hc h1 h2 h3
    refine ⟨_, _, exec_rdinfo_of_reads hc h1 h2 h3, finishInfo_frame _ _ _ _ _ _, asciiField_block u1,
      asciiField_block u2, versionField_block _ u3, versionField_block _ u3, fun hok1 hok2 hok3 => ?_⟩
    rw [block_of_ok hok1, block_of_ok hok2, block_of_ok hok3, finishInfo_of_some]
    exact ⟨rfl, rfl⟩

/-! ### RDINFO on scripted arrivals (R71, R152, R175, R232) -/

/-- `u` is a ready engine after an exchange of `s` that brought no words; `more` is still to arrive. -/
structure Unanswered (s u : State) (more : List (List Byte)) : Prop where
  ready  : u.ready = true
  error  : u.status ≠ .ok
  words  : WordFileKept s u
  bursts : u.env.bursts = more

/-- A header read that brings fewer than three bytes ends the attempt (R152). -/
theorem exec_rdregs_shortBurst {s : State} {b : List Byte} {more : List (List Byte)} (start count : Word)
    (hready : s.ready = true) (hb : s.env.bursts = b :: more) (hlen : b.length < 3) :
    ∃ u, exec (.rdregs start count) s = .next u ∧ Unanswered s u more := by
  have hsent : (s.sendRequest s.cfgDeviceId (.read start count)).env.bursts = b :: more := hb
  have hshort : ((s.sendRequest s.cfgDeviceId (.read start count)).rxReadBytes 3).length < 3 := by
    rw [rxReadBytes_scripted 3 _ b more hsent]
    simp [hlen]
  obtain ⟨v, n, hx⟩ := shortHeaderTimesOut _ _ s (.inl ⟨start, count, rfl, rfl⟩) hready hshort
  exact ⟨_, hx, (transact_sent hready hx).ready, nofun, by simp [WordFileKept], by simp [hb]⟩

/-- Settles O46: three attempts that bring no words leave four empty fields. -/
theorem rdinfoCompletesWithoutAnswers : Obligations.RdinfoCompletesWithoutAnswers := by
  intro s b1 b2 b3 more hready hb hlen1 hlen2 hlen3
  obtain ⟨u1, h1, k1⟩ := exec_rdregs_shortBurst 0x000C 8 hready hb hlen1
  obtain ⟨u2, h2, k2⟩ := exec_rdregs_shortBurst 0x0018 8 k1.ready k1.bursts hlen2
  obtain ⟨u3, h3, k3⟩ := exec_rdregs_shortBurst 0x0014 4 k2.ready k2.bursts hlen3
  obtain ⟨hc, -, -⟩ := (ready_iff s).mp hready
  obtain ⟨-, hidle, -⟩ := (ready_iff u3).mp k3.ready
  obtain ⟨hw, hwcnt⟩ := (k1.words.trans k2.words).trans k3.words
  have hinfo := exec_rdinfo_of_reads hc h1 h2 h3
  rw [block_of_error k1.error, block_of_error k2.error, block_of_error k3.error] at hinfo
  exact ⟨_, hinfo, rfl, rfl, hidle, hw, hwcnt, k3.bursts⟩

/-- `u` is a ready engine after a read exchange of `s` that brought the words `ws`; `more` is still to arrive. -/
structure Delivered (s u : State) (ws : List Word) (more : List (List Byte)) : Prop where
  ready   : u.ready = true
  ok      : u.status = .ok
  w       : u.w = ws
  wcnt    : u.wcnt = ws.length
  excCode : u.excCode = s.excCode
  excFc   : u.excFc = s.excFc
  bursts  : u.env.bursts = more

/-- A whole response with a right checksum that arrives as its header and then the rest answers the read (R71). -/
theorem readAnswered_of_bursts {s : State} {h : Header} {data : List Byte} {more : List (List Byte)}
    (start count : Word) (hnormal : h.functionCode &&& 0x80 = 0) (hcount : h.third.toNat = data.length)
    (hb : s.env.bursts = headerBytes h :: (data ++ le16 (crc16 (headerBytes h ++ data))) :: more) :
    ReadAnswered s start count h data := by
  have hsent : (s.sendRequest s.cfgDeviceId (.read start count)).env.bursts = _ := hb
  refine ⟨rxReadBytes_scripted 3 _ _ _ hsent, hnormal, hcount, ?_⟩
  rw [rxReadState_scripted 3 _ _ _ hsent, rxReadBytes_scripted _ _ _ more rfl]
  exact List.take_of_length_le (by simp [le16, headerBytes])

/-- A block that arrives whole is the words of a successful attempt (R175). -/
theorem exec_rdregs_delivered {s : State} {start count : Word} {h : Header} {ws : List Word} {more : List (List Byte)}
    (hready : s.ready = true) (hnormal : h.functionCode &&& 0x80 = 0) (hcount : h.third.toNat = 2 * ws.length)
    (hlen : ws.length = count.toNat)
    (hb : s.env.bursts =
      headerBytes h :: (wordsToBytes ws ++ le16 (crc16 (headerBytes h ++ wordsToBytes ws))) :: more) :
    ∃ u, exec (.rdregs start count) s = .next u ∧ Delivered s u ws more := by
  have ha := readAnswered_of_bursts start count hnormal (hcount.trans (length_wordsToBytes ws).symm) hb
  have hx := rdregsReturnsWords s start count h ws hready ha hlen
  exact ⟨_, hx, (transact_sent hready hx).ready, rfl, rfl, rfl, by simp, by simp, by simp [hb]⟩

theorem Delivered.block {s u : State} {ws : List Word} {more : List (List Byte)} (k : Delivered s u ws more) :
    u.block = some ws := by
  rw [block_of_ok k.ok, k.w]

/-- Settles O47: three attempts whose blocks arrive whole, each in the state the one before it left. -/
theorem rdinfoDecodesThreeBlocks : Obligations.RdinfoDecodesThreeBlocks := by
  intro s d f m v n more hready hf hm hn hv hb
  obtain ⟨u1, h1, k1⟩ := exec_rdregs_delivered (start := 0x000C) (count := 8) (h := ⟨d, f, 16⟩) hready hf
    (by rw [hm]; rfl) hm hb
  obtain ⟨u2, h2, k2⟩ := exec_rdregs_delivered (start := 0x0018) (count := 8) (h := ⟨d, f, 16⟩) k1.ready hf
    (by rw [hn]; rfl) hn k1.bursts
  obtain ⟨u3, h3, k3⟩ := exec_rdregs_delivered (start := 0x0014) (count := 4) (h := ⟨d, f, 8⟩) k2.ready hf
    (by rw [hv]; rfl) hv k2.bursts
  obtain ⟨hc, -, -⟩ := (ready_iff s).mp hready
  obtain ⟨-, hidle, -⟩ := (ready_iff u3).mp k3.ready
  have hinfo := exec_rdinfo_of_reads hc h1 h2 h3
  rw [k1.block, k2.block, k3.block, finishInfo_of_some] at hinfo
  exact ⟨_, hinfo, rfl, k3.w, k3.wcnt.trans hv, hidle, rfl,
    k3.excCode.trans (k2.excCode.trans k1.excCode), k3.excFc.trans (k2.excFc.trans k1.excFc)⟩

end Sys2Proof.Machine
end

section
/-! Proofs about errors and waiting (60_exceptions.md, 70_reset_and_hazards.md): no transport, unasked frames, the exception texts,
a step without an instruction. -/

namespace Sys2Proof.Machine

/-! ### No transport (R253) -/

theorem raise_notConnected_status_ne_ok (s : State) : (s.raise .notConnected).status ≠ .ok := nofun

/-- RDRT and GETLOAD hand the error of their exchange on (R236); RDINFO makes the test itself (R232). -/
theorem exec_transactional_notConnected (i : Instr) (s : State) (hi : isTransactional i = true)
    (hc : s.connected = false) : exec i s = .next (s.raise .notConnected) := by
  have ht := fun r => transact_notConnected r s hc
  have hne := raise_notConnected_status_ne_ok s
  cases i with
  | rdregs | wrreg | setload => exact ht _
  | rdrt =>
    change execRdrt s = _
    rw [execRdrt_eq, ht, onSuccess_of_error _ hne]
  | getload =>
    change execGetload s = _
    rw [execGetload, ht, onSuccess_of_error _ hne]
  | rdinfo => exact if_pos hc
  | _ => cases hi

/-- Settles O14: each operation ends with the raise of the connection test, which writes no more than these registers. -/
theorem notConnectedBeforeAnythingElse : Obligations.NotConnectedBeforeAnythingElse := by
  intro i s hi hc
  exact ⟨_, _, (exec_transactional_notConnected i s hi hc).trans (congrArg _ (raise_eq .notConnected s nofun))⟩

/-! ### Unasked arrivals (R258, R265) -/

/-- Between exchanges no phase runs, so what arrives is only buffered. -/
theorem arrive_idle (bs : List Byte) (s : State) (hc : s.connected = true) (hp : s.phase = .idle) :
    arrive bs s = .next (s.receiveBytes bs) :=
  (arrive_connected bs s hc).trans (runPhases_idle 5 (s.receiveBytes bs) hp)

/-- Settles O51: a response frame is the arrival of its bytes. -/
theorem unaskedFramesStayBuffered : Obligations.UnaskedFramesStayBuffered := by
  intro i s hi
  rw [exec_response i s hi]
  exact ⟨arrive_idle _ s, arrive_notConnected _ s⟩

/-! ### The texts of the exception codes (R251, R257) -/

/-- The codes the table has an entry for (R251). -/
def knownExceptionCodes : List Nat := [0x01, 0x02, 0x03, 0x04, 0x05, 0x06, 0x08, 0x0A, 0x0B]

theorem exceptionMessage_unknown {code : Byte} (h : code.toNat ∉ knownExceptionCodes) :
    exceptionMessage code =
      "Unknown Exception (0x".toList ++ [hexDigit (code.toNat / 16), hexDigit (code.toNat % 16)] ++ ")".toList := by
  unfold exceptionMessage
  split
  case h_10 => rw [List.append_assoc]; rfl
  all_goals
    rename_i hn
    simp [hn, knownExceptionCodes] at h

theorem getElem?_hexDigits {n : Nat} (h : n < 16) : "0123456789ABCDEF".toList[n]? = some (hexDigit n) := by
  have hl : n < "0123456789ABCDEF".toList.length := h
  rw [hexDigit, List.getD_eq_getElem _ _ hl, List.getElem?_eq_getElem hl]

/-- Settles O53: the nine entries one by one, and the two digits of a byte that is not among them. -/
theorem exceptionCodesHaveTexts : Obligations.ExceptionCodesHaveTexts := by
  intro code
  constructor
  · intro m hm
    simp only [List.mem_cons, List.not_mem_nil, or_false, Prod.mk.injEq] at hm
    rcases hm with ⟨h, rfl⟩ | ⟨h, rfl⟩ | ⟨h, rfl⟩ | ⟨h, rfl⟩ | ⟨h, rfl⟩ | ⟨h, rfl⟩ | ⟨h, rfl⟩ | ⟨h, rfl⟩ | ⟨h, rfl⟩ <;>
      simp only [exceptionMessage, h]
  · intro h
    have hb : code.toNat < 256 := code.isLt
    exact ⟨_, _, exceptionMessage_unknown h, getElem?_hexDigits (by omega), getElem?_hexDigits (by omega)⟩

/-! ### A step without an instruction (R36 to R39, R105, R258, R280) -/

theorem step_configure {s : State} {c : ConfigWrite} {rest : List Input} (h : s.inputs = .configure c :: rest) :
    step s = .next ({ s with inputs := rest }.configure c) := by
  rw [← takeInput_of_cons s _ rest h]
  simp only [step, h]

theorem step_of_decode_error {s : State} {p : Port} {bs : List Byte} {rest : List Input} {e : DecodeError}
    (h : s.inputs = .bytes p bs :: rest) (hd : decode p bs = .error e) :
    step s = rejectBytes p bs { s with inputs := rest } := by
  rw [← takeInput_of_cons s _ rest h]
  simp only [step, h, hd]

/-- No operation has a select code from 0x16 on (R105). -/
theorem decode_reservedSelect {op : Byte} (t : List Byte) (h : 0x16 ≤ op.toNat) :
    decode .command (op :: t) = .error .reservedSelect := by
  obtain ⟨k, hk⟩ := Nat.exists_eq_add_of_le' h
  change decodeOperation op.toNat t = _
  rw [hk]
  rfl

/-- Without the three bytes of a header no response is told from another (R99). -/
theorem decodeReadResponse_short : ∀ {bs : List Byte}, bs.length < 3 → decodeReadResponse bs = .error .frameLength
  | [], _ | [_], _ | [_, _], _ => rfl

/-- Settles O56: the branches of the step that call no meaning. -/
theorem stepWithoutInstruction : Obligations.StepWithoutInstruction := by
  intro s rest
  refine ⟨?waits, fun _ => step_configure, fun _ => step_configure, fun _ => step_configure, fun _ => step_configure,
    ?reserved, ?loose⟩
  case waits => intro h; simp only [step, h]
  case reserved => exact fun op t h hlow _ => step_of_decode_error h (decode_reservedSelect t hlow)
  case loose =>
    intro bs h hlen hc hp
    exact (step_of_decode_error h (decodeReadResponse_short hlen)).trans (arrive_idle bs { s with inputs := rest } hc hp)

end Sys2Proof.Machine
end
